-- ==== Sys2Proof/Word.lean ====
section
/-! DEFINITION. The Word: a sign and five 6-bit bytes, sign-magnitude (10 R21). -/

namespace Sys2Proof

/-- A 6-bit digit, 0..63 (00 R7). -/
abbrev Byte := BitVec 6

/-- `w.sign` is true for negative; `b0` is the least significant byte (00 R10, 20 R54). A literal
⟨sign, b4, b3, b2, b1, b0⟩ lists the bytes most significant first, as the spec's [± b4 b3 b2 b1 b0] does. -/
structure Word where
  sign : Bool
  b4 : Byte
  b3 : Byte
  b2 : Byte
  b1 : Byte
  b0 : Byte
  deriving DecidableEq, Repr, Inhabited

/-- The zero with the given sign: +0 and −0 are different words (10 R21). -/
def Word.zero (sign : Bool) : Word := ⟨sign, 0, 0, 0, 0, 0⟩

/-- +0. -/
def Word.plusZero : Word := Word.zero false

/-- −0. -/
def Word.minusZero : Word := Word.zero true

/-- `w.b[i]` for i = 0..4; a word has no other byte. -/
def Word.byte (w : Word) (i : Nat) : Byte :=
  match i with
  | 0 => w.b0
  | 1 => w.b1
  | 2 => w.b2
  | 3 => w.b3
  | 4 => w.b4
  | _ => 0

end Sys2Proof
end

