-- ==== Sys2Proof/Syntax.lean ====
section
/-! DEFINITION. The instruction set as syntax: one constructor for each of the 153 rows of spec/opcode_table.json.
Decoding and encoding are Decode.lean's, meanings are Machine's. -/

namespace Sys2Proof

/-- The address operand of an instruction word (30 R80, R82, R84): the sign S, the 12-bit magnitude AA and the
index field I. The index field keeps all six bits: 7..63 are outside the specified range and fault where an
effective address is computed. -/
structure AddrField where
  neg : Bool
  mag : BitVec 12
  index : Byte
  deriving DecidableEq, Repr, Inhabited

/-- The modifier byte F of an instruction word read as a field specification (20 R55), all 64 values. -/
abbrev FieldSpec := Byte

/-- The instructions. `m` is the address operand. `f` is the modifier byte where F is an operand: a field
specification (opcodes 1..4, 8..15, 24..33, 56..63), or the ignored modifier of a no-op word. Where F selects
the instruction (opcodes 5, 39, 40..47, 48..55) the constructor fixes it (30 R83). Instructions that ignore a
field still carry it, so that no bit of the word is lost (log 29). -/
inductive Instr where
  /-- add the operand field to A (40 R100). -/
  | add (m : AddrField) (f : FieldSpec)
  /-- subtract the operand field from A (40 R101). -/
  | sub (m : AddrField) (f : FieldSpec)
  /-- multiply A by the operand field into AX (40 R102). -/
  | mul (m : AddrField) (f : FieldSpec)
  /-- divide AX by the operand field (40 R103). -/
  | div (m : AddrField) (f : FieldSpec)
  /-- halt; address and index are kept but never read (41 R120). -/
  | hlt (m : AddrField)
  /-- opcode 5 with F other than 2, a no-op word (41 R121). -/
  | nopOp5 (m : AddrField) (f : FieldSpec)
  /-- load A (42 R131). -/
  | lda (m : AddrField) (f : FieldSpec)
  /-- load I1 (42 R132). -/
  | ld1 (m : AddrField) (f : FieldSpec)
  /-- load I2 (42 R133). -/
  | ld2 (m : AddrField) (f : FieldSpec)
  /-- load I3 (42 R134). -/
  | ld3 (m : AddrField) (f : FieldSpec)
  /-- load I4 (42 R135). -/
  | ld4 (m : AddrField) (f : FieldSpec)
  /-- load I5 (42 R136). -/
  | ld5 (m : AddrField) (f : FieldSpec)
  /-- load I6 (42 R137). -/
  | ld6 (m : AddrField) (f : FieldSpec)
  /-- load X (42 R138). -/
  | ldx (m : AddrField) (f : FieldSpec)
  /-- store A (43 R151). -/
  | sta (m : AddrField) (f : FieldSpec)
  /-- store I1 (43 R152). -/
  | st1 (m : AddrField) (f : FieldSpec)
  /-- store I2 (43 R153). -/
  | st2 (m : AddrField) (f : FieldSpec)
  /-- store I3 (43 R154). -/
  | st3 (m : AddrField) (f : FieldSpec)
  /-- store I4 (43 R155). -/
  | st4 (m : AddrField) (f : FieldSpec)
  /-- store I5 (43 R156). -/
  | st5 (m : AddrField) (f : FieldSpec)
  /-- store I6 (43 R157). -/
  | st6 (m : AddrField) (f : FieldSpec)
  /-- store X (43 R158). -/
  | stx (m : AddrField) (f : FieldSpec)
  /-- store J (43 R159). -/
  | stj (m : AddrField) (f : FieldSpec)
  /-- store +0 (43 R160). -/
  | stz (m : AddrField) (f : FieldSpec)
  /-- jump, saving J (44 R171). -/
  | jmp (m : AddrField)
  /-- jump, J unchanged (44 R172). -/
  | jsj (m : AddrField)
  /-- jump if CI is LESS (44 R173). -/
  | jl (m : AddrField)
  /-- jump if CI is EQUAL (44 R174). -/
  | je (m : AddrField)
  /-- jump if CI is GREATER (44 R175). -/
  | jg (m : AddrField)
  /-- jump if CI is not LESS (44 R176). -/
  | jge (m : AddrField)
  /-- jump if CI is not EQUAL (44 R177). -/
  | jne (m : AddrField)
  /-- jump if CI is not GREATER (44 R178). -/
  | jle (m : AddrField)
  /-- opcode 39 with F in 2, 3, 10..63, a no-op word (44 R179). -/
  | nopOp39 (m : AddrField) (f : FieldSpec)
  /-- jump if A is negative (45 R202). -/
  | jan (m : AddrField)
  /-- jump if A is zero (45 R203). -/
  | jaz (m : AddrField)
  /-- jump if A is positive (45 R204). -/
  | jap (m : AddrField)
  /-- jump if A is non-negative (45 R205). -/
  | jann (m : AddrField)
  /-- jump if A is non-zero (45 R206). -/
  | janz (m : AddrField)
  /-- jump if A is non-positive (45 R207). -/
  | janp (m : AddrField)
  /-- opcode 40 with F at least 6, a no-op word (45 R250). -/
  | nopOp40 (m : AddrField) (f : FieldSpec)
  /-- jump if I1 is negative (45 R208). -/
  | j1n (m : AddrField)
  /-- jump if I1 is zero (45 R209). -/
  | j1z (m : AddrField)
  /-- jump if I1 is positive (45 R210). -/
  | j1p (m : AddrField)
  /-- jump if I1 is non-negative (45 R211). -/
  | j1nn (m : AddrField)
  /-- jump if I1 is non-zero (45 R212). -/
  | j1nz (m : AddrField)
  /-- jump if I1 is non-positive (45 R213). -/
  | j1np (m : AddrField)
  /-- opcode 41 with F at least 6, a no-op word (45 R250). -/
  | nopOp41 (m : AddrField) (f : FieldSpec)
  /-- jump if I2 is negative (45 R214). -/
  | j2n (m : AddrField)
  /-- jump if I2 is zero (45 R215). -/
  | j2z (m : AddrField)
  /-- jump if I2 is positive (45 R216). -/
  | j2p (m : AddrField)
  /-- jump if I2 is non-negative (45 R217). -/
  | j2nn (m : AddrField)
  /-- jump if I2 is non-zero (45 R218). -/
  | j2nz (m : AddrField)
  /-- jump if I2 is non-positive (45 R219). -/
  | j2np (m : AddrField)
  /-- opcode 42 with F at least 6, a no-op word (45 R250). -/
  | nopOp42 (m : AddrField) (f : FieldSpec)
  /-- jump if I3 is negative (45 R220). -/
  | j3n (m : AddrField)
  /-- jump if I3 is zero (45 R221). -/
  | j3z (m : AddrField)
  /-- jump if I3 is positive (45 R222). -/
  | j3p (m : AddrField)
  /-- jump if I3 is non-negative (45 R223). -/
  | j3nn (m : AddrField)
  /-- jump if I3 is non-zero (45 R224). -/
  | j3nz (m : AddrField)
  /-- jump if I3 is non-positive (45 R225). -/
  | j3np (m : AddrField)
  /-- opcode 43 with F at least 6, a no-op word (45 R250). -/
  | nopOp43 (m : AddrField) (f : FieldSpec)
  /-- jump if I4 is negative (45 R226). -/
  | j4n (m : AddrField)
  /-- jump if I4 is zero (45 R227). -/
  | j4z (m : AddrField)
  /-- jump if I4 is positive (45 R228). -/
  | j4p (m : AddrField)
  /-- jump if I4 is non-negative (45 R229). -/
  | j4nn (m : AddrField)
  /-- jump if I4 is non-zero (45 R230). -/
  | j4nz (m : AddrField)
  /-- jump if I4 is non-positive (45 R231). -/
  | j4np (m : AddrField)
  /-- opcode 44 with F at least 6, a no-op word (45 R250). -/
  | nopOp44 (m : AddrField) (f : FieldSpec)
  /-- jump if I5 is negative (45 R232). -/
  | j5n (m : AddrField)
  /-- jump if I5 is zero (45 R233). -/
  | j5z (m : AddrField)
  /-- jump if I5 is positive (45 R234). -/
  | j5p (m : AddrField)
  /-- jump if I5 is non-negative (45 R235). -/
  | j5nn (m : AddrField)
  /-- jump if I5 is non-zero (45 R236). -/
  | j5nz (m : AddrField)
  /-- jump if I5 is non-positive (45 R237). -/
  | j5np (m : AddrField)
  /-- opcode 45 with F at least 6, a no-op word (45 R250). -/
  | nopOp45 (m : AddrField) (f : FieldSpec)
  /-- jump if I6 is negative (45 R238). -/
  | j6n (m : AddrField)
  /-- jump if I6 is zero (45 R239). -/
  | j6z (m : AddrField)
  /-- jump if I6 is positive (45 R240). -/
  | j6p (m : AddrField)
  /-- jump if I6 is non-negative (45 R241). -/
  | j6nn (m : AddrField)
  /-- jump if I6 is non-zero (45 R242). -/
  | j6nz (m : AddrField)
  /-- jump if I6 is non-positive (45 R243). -/
  | j6np (m : AddrField)
  /-- opcode 46 with F at least 6, a no-op word (45 R250). -/
  | nopOp46 (m : AddrField) (f : FieldSpec)
  /-- jump if X is negative (45 R244). -/
  | jxn (m : AddrField)
  /-- jump if X is zero (45 R245). -/
  | jxz (m : AddrField)
  /-- jump if X is positive (45 R246). -/
  | jxp (m : AddrField)
  /-- jump if X is non-negative (45 R247). -/
  | jxnn (m : AddrField)
  /-- jump if X is non-zero (45 R248). -/
  | jxnz (m : AddrField)
  /-- jump if X is non-positive (45 R249). -/
  | jxnp (m : AddrField)
  /-- opcode 47 with F at least 6, a no-op word (45 R250). -/
  | nopOp47 (m : AddrField) (f : FieldSpec)
  /-- increase A (46 R264). -/
  | inca (m : AddrField)
  /-- decrease A (46 R265). -/
  | deca (m : AddrField)
  /-- enter A (46 R266). -/
  | enta (m : AddrField)
  /-- enter negative A (46 R267). -/
  | enna (m : AddrField)
  /-- opcode 48 with F at least 4, a no-op word (46 R263). -/
  | nopOp48 (m : AddrField) (f : FieldSpec)
  /-- increase I1 (46 R268). -/
  | inc1 (m : AddrField)
  /-- decrease I1 (46 R269). -/
  | dec1 (m : AddrField)
  /-- enter I1 (46 R270). -/
  | ent1 (m : AddrField)
  /-- enter negative I1 (46 R271). -/
  | enn1 (m : AddrField)
  /-- opcode 49 with F at least 4, a no-op word (46 R263). -/
  | nopOp49 (m : AddrField) (f : FieldSpec)
  /-- increase I2 (46 R272). -/
  | inc2 (m : AddrField)
  /-- decrease I2 (46 R273). -/
  | dec2 (m : AddrField)
  /-- enter I2 (46 R274). -/
  | ent2 (m : AddrField)
  /-- enter negative I2 (46 R275). -/
  | enn2 (m : AddrField)
  /-- opcode 50 with F at least 4, a no-op word (46 R263). -/
  | nopOp50 (m : AddrField) (f : FieldSpec)
  /-- increase I3 (46 R276). -/
  | inc3 (m : AddrField)
  /-- decrease I3 (46 R277). -/
  | dec3 (m : AddrField)
  /-- enter I3 (46 R278). -/
  | ent3 (m : AddrField)
  /-- enter negative I3 (46 R279). -/
  | enn3 (m : AddrField)
  /-- opcode 51 with F at least 4, a no-op word (46 R263). -/
  | nopOp51 (m : AddrField) (f : FieldSpec)
  /-- increase I4 (46 R280). -/
  | inc4 (m : AddrField)
  /-- decrease I4 (46 R281). -/
  | dec4 (m : AddrField)
  /-- enter I4 (46 R282). -/
  | ent4 (m : AddrField)
  /-- enter negative I4 (46 R283). -/
  | enn4 (m : AddrField)
  /-- opcode 52 with F at least 4, a no-op word (46 R263). -/
  | nopOp52 (m : AddrField) (f : FieldSpec)
  /-- increase I5 (46 R284). -/
  | inc5 (m : AddrField)
  /-- decrease I5 (46 R285). -/
  | dec5 (m : AddrField)
  /-- enter I5 (46 R286). -/
  | ent5 (m : AddrField)
  /-- enter negative I5 (46 R287). -/
  | enn5 (m : AddrField)
  /-- opcode 53 with F at least 4, a no-op word (46 R263). -/
  | nopOp53 (m : AddrField) (f : FieldSpec)
  /-- increase I6 (46 R288). -/
  | inc6 (m : AddrField)
  /-- decrease I6 (46 R289). -/
  | dec6 (m : AddrField)
  /-- enter I6 (46 R290). -/
  | ent6 (m : AddrField)
  /-- enter negative I6 (46 R291). -/
  | enn6 (m : AddrField)
  /-- opcode 54 with F at least 4, a no-op word (46 R263). -/
  | nopOp54 (m : AddrField) (f : FieldSpec)
  /-- increase X (46 R292). -/
  | incx (m : AddrField)
  /-- decrease X (46 R293). -/
  | decx (m : AddrField)
  /-- enter X (46 R294). -/
  | entx (m : AddrField)
  /-- enter negative X (46 R295). -/
  | ennx (m : AddrField)
  /-- opcode 55 with F at least 4, a no-op word (46 R263). -/
  | nopOp55 (m : AddrField) (f : FieldSpec)
  /-- compare A (47 R301). -/
  | cmpa (m : AddrField) (f : FieldSpec)
  /-- compare I1 (47 R302). -/
  | cmp1 (m : AddrField) (f : FieldSpec)
  /-- compare I2 (47 R303). -/
  | cmp2 (m : AddrField) (f : FieldSpec)
  /-- compare I3 (47 R304). -/
  | cmp3 (m : AddrField) (f : FieldSpec)
  /-- compare I4 (47 R305). -/
  | cmp4 (m : AddrField) (f : FieldSpec)
  /-- compare I5 (47 R306). -/
  | cmp5 (m : AddrField) (f : FieldSpec)
  /-- compare I6 (47 R307). -/
  | cmp6 (m : AddrField) (f : FieldSpec)
  /-- compare X (47 R308). -/
  | cmpx (m : AddrField) (f : FieldSpec)
  /-- unknown opcode 0, a no-op word (48 R320). -/
  | unkOp0 (m : AddrField) (f : FieldSpec)
  /-- unknown opcode 6, a no-op word (48 R320). -/
  | unkOp6 (m : AddrField) (f : FieldSpec)
  /-- unknown opcode 7, a no-op word (48 R320). -/
  | unkOp7 (m : AddrField) (f : FieldSpec)
  /-- unknown opcode 16, a no-op word (48 R320). -/
  | unkOp16 (m : AddrField) (f : FieldSpec)
  /-- unknown opcode 17, a no-op word (48 R320). -/
  | unkOp17 (m : AddrField) (f : FieldSpec)
  /-- unknown opcode 18, a no-op word (48 R320). -/
  | unkOp18 (m : AddrField) (f : FieldSpec)
  /-- unknown opcode 19, a no-op word (48 R320). -/
  | unkOp19 (m : AddrField) (f : FieldSpec)
  /-- unknown opcode 20, a no-op word (48 R320). -/
  | unkOp20 (m : AddrField) (f : FieldSpec)
  /-- unknown opcode 21, a no-op word (48 R320). -/
  | unkOp21 (m : AddrField) (f : FieldSpec)
  /-- unknown opcode 22, a no-op word (48 R320). -/
  | unkOp22 (m : AddrField) (f : FieldSpec)
  /-- unknown opcode 23, a no-op word (48 R320). -/
  | unkOp23 (m : AddrField) (f : FieldSpec)
  /-- unknown opcode 34, a no-op word (48 R320). -/
  | unkOp34 (m : AddrField) (f : FieldSpec)
  /-- unknown opcode 35, a no-op word (48 R320). -/
  | unkOp35 (m : AddrField) (f : FieldSpec)
  /-- unknown opcode 36, a no-op word (48 R320). -/
  | unkOp36 (m : AddrField) (f : FieldSpec)
  /-- unknown opcode 37, a no-op word (48 R320). -/
  | unkOp37 (m : AddrField) (f : FieldSpec)
  /-- unknown opcode 38, a no-op word (48 R320). -/
  | unkOp38 (m : AddrField) (f : FieldSpec)
  deriving DecidableEq, Repr

end Sys2Proof
end

