-- ==== Sys2Proof/Config.lean ====
section
/-! DEFINITION. The parameters the spec leaves open (00 R8) and the don't-care outputs of the combinational units. -/

namespace Sys2Proof

/-- ARITH_OVERFLOW: what a result of magnitude 2^30 or more does (00 R8, 10 R25). -/
inductive ArithOverflow where
  | truncate | fault
  deriving DecidableEq, Repr

/-- ZERO_RESULT_SIGN: the sign of a zero result (00 R8, 10 R26). -/
inductive ZeroResultSign where
  | positive | keep
  deriving DecidableEq, Repr

/-- DIVIDEND_SIGN: which sign the dividend of DIV takes (00 R8, 40 R103). -/
inductive DividendSign where
  | signOfA | signOfX
  deriving DecidableEq, Repr

/-- OPCODE_MAP: the numbers of opcodes and sub-modes, said as the differences from the default numbering of 30 R85 to
R89 (00 R8, log 1). `opcodes` pairs an opcode number of this implementation with the default number of its meaning;
`submodes` pairs, for a default opcode whose F is a sub-mode, a sub-mode number with the default one. A number that is
not listed is its own default. -/
structure OpcodeMap where
  opcodes : List (Byte × Byte)
  submodes : List (Byte × FieldSpec × FieldSpec)
  deriving DecidableEq, Repr

/-- The spec's default: MIX's numbering (PRESUMED, 92 D1, log 1). -/
def OpcodeMap.default : OpcodeMap := ⟨[], []⟩

/-- The parameters that steps read. A model takes them as arguments (00 R8); here State carries them and no step
writes them (log 32). -/
structure Params where
  arithOverflow : ArithOverflow
  zeroResultSign : ZeroResultSign
  dividendSign : DividendSign
  opcodeMap : OpcodeMap
  deriving DecidableEq, Repr

/-- The spec's defaults (DESIGN CHOICE of the spec: 92 D1, D8, D9, D10; logs 1, 8, 9, 10). -/
def Params.default : Params := ⟨.truncate, .positive, .signOfA, .default⟩

/-- INIT_REGS: the initial A, X, I1..I6 and J (00 R8, 10 R34). -/
structure InitRegs where
  a : Word
  x : Word
  i1 : Word
  i2 : Word
  i3 : Word
  i4 : Word
  i5 : Word
  i6 : Word
  j : Word
  deriving DecidableEq, Repr

/-- The spec's default: +0 each (DESIGN CHOICE of the spec: 92 D11, log 11). -/
def InitRegs.default : InitRegs :=
  ⟨.plusZero, .plusZero, .plusZero, .plusZero, .plusZero, .plusZero, .plusZero, .plusZero, .plusZero⟩

/-- START_PC, the spec's default (DESIGN CHOICE of the spec: 92 D12, log 12). -/
def startPcDefault : Int := 0

/-- FX's `r` output where `bad` is raised: a don't-care (20 R60). No instruction reads it. -/
opaque Config.fieldExtractDontCare : Word → FieldSpec → Word

/-- FW's `r` output where `bad` is raised: a don't-care (20 R60). No instruction reads it. -/
opaque Config.fieldWriteDontCare : Word → FieldSpec → Word → Word

/-- AG's `ea` output where `bad` is raised, which the spec does not give: a function of all the inputs of the
combinational unit, the instruction word and I1..I6 (20 R62, log 16). No instruction reads it. -/
opaque Config.addressDontCare : Word → Word → Word → Word → Word → Word → Word → Int

end Sys2Proof
end

