-- ==== Sys2Proof/WellFormed.lean ====
section
/-! DEFINITION. Which terms of Instr are instructions: a no-op word of a shared opcode carries a modifier that no
more specific row of the table claims (30 R90). Index fields 7..63 and bad field specifications are well formed:
such words exist and their faults are the machine's (20 R59, R61). -/

namespace Sys2Proof

/-- The sub-modes of opcode 5 that are not HLT (30 R86). -/
def unlistedSpecial (f : FieldSpec) : Bool := f.toNat != 2

/-- The sub-modes of opcode 39 that are no jump: 2, 3, 10..63 (30 R87). -/
def unlistedJump (f : FieldSpec) : Bool := f.toNat == 2 || f.toNat == 3 || decide (10 ≤ f.toNat)

/-- The sub-modes of opcodes 40..47 that are no predicate: 6..63 (30 R88). -/
def unlistedJumpReg (f : FieldSpec) : Bool := decide (6 ≤ f.toNat)

/-- The sub-modes of opcodes 48..55 that are no address transfer: 4..63 (30 R89). -/
def unlistedAddr (f : FieldSpec) : Bool := decide (4 ≤ f.toNat)

/-- The term is the decoding of some word. -/
def Instr.wellFormed : Instr → Bool
  | .add _ _ | .sub _ _ | .mul _ _ | .div _ _ | .lda _ _ | .ld1 _ _ | .ld2 _ _ | .ld3 _ _ | .ld4 _ _
  | .ld5 _ _ | .ld6 _ _ | .ldx _ _ | .sta _ _ | .st1 _ _ | .st2 _ _ | .st3 _ _ | .st4 _ _ | .st5 _ _
  | .st6 _ _ | .stx _ _ | .stj _ _ | .stz _ _ | .cmpa _ _ | .cmp1 _ _ | .cmp2 _ _ | .cmp3 _ _ | .cmp4 _ _
  | .cmp5 _ _ | .cmp6 _ _ | .cmpx _ _ | .unkOp0 _ _ | .unkOp6 _ _ | .unkOp7 _ _ | .unkOp16 _ _ | .unkOp17 _ _
  | .unkOp18 _ _ | .unkOp19 _ _ | .unkOp20 _ _ | .unkOp21 _ _ | .unkOp22 _ _ | .unkOp23 _ _ | .unkOp34 _ _
  | .unkOp35 _ _ | .unkOp36 _ _ | .unkOp37 _ _ | .unkOp38 _ _ => true
  | .hlt _ | .jmp _ | .jsj _ | .jl _ | .je _ | .jg _ | .jge _ | .jne _ | .jle _ | .jan _ | .jaz _ | .jap _
  | .jann _ | .janz _ | .janp _ | .j1n _ | .j1z _ | .j1p _ | .j1nn _ | .j1nz _ | .j1np _ | .j2n _ | .j2z _
  | .j2p _ | .j2nn _ | .j2nz _ | .j2np _ | .j3n _ | .j3z _ | .j3p _ | .j3nn _ | .j3nz _ | .j3np _ | .j4n _
  | .j4z _ | .j4p _ | .j4nn _ | .j4nz _ | .j4np _ | .j5n _ | .j5z _ | .j5p _ | .j5nn _ | .j5nz _ | .j5np _
  | .j6n _ | .j6z _ | .j6p _ | .j6nn _ | .j6nz _ | .j6np _ | .jxn _ | .jxz _ | .jxp _ | .jxnn _ | .jxnz _
  | .jxnp _ | .inca _ | .deca _ | .enta _ | .enna _ | .inc1 _ | .dec1 _ | .ent1 _ | .enn1 _ | .inc2 _
  | .dec2 _ | .ent2 _ | .enn2 _ | .inc3 _ | .dec3 _ | .ent3 _ | .enn3 _ | .inc4 _ | .dec4 _ | .ent4 _
  | .enn4 _ | .inc5 _ | .dec5 _ | .ent5 _ | .enn5 _ | .inc6 _ | .dec6 _ | .ent6 _ | .enn6 _ | .incx _
  | .decx _ | .entx _ | .ennx _ => true
  | .nopOp5 _ f => unlistedSpecial f
  | .nopOp39 _ f => unlistedJump f
  | .nopOp40 _ f => unlistedJumpReg f
  | .nopOp41 _ f => unlistedJumpReg f
  | .nopOp42 _ f => unlistedJumpReg f
  | .nopOp43 _ f => unlistedJumpReg f
  | .nopOp44 _ f => unlistedJumpReg f
  | .nopOp45 _ f => unlistedJumpReg f
  | .nopOp46 _ f => unlistedJumpReg f
  | .nopOp47 _ f => unlistedJumpReg f
  | .nopOp48 _ f => unlistedAddr f
  | .nopOp49 _ f => unlistedAddr f
  | .nopOp50 _ f => unlistedAddr f
  | .nopOp51 _ f => unlistedAddr f
  | .nopOp52 _ f => unlistedAddr f
  | .nopOp53 _ f => unlistedAddr f
  | .nopOp54 _ f => unlistedAddr f
  | .nopOp55 _ f => unlistedAddr f

end Sys2Proof
end

