-- ==== Sys2Proof/Decode.lean ====
section
/-! DEFINITION. The one instruction format (30 R80): the accessors of an instruction word, the decoder, total on all
words, the encoder, the packed 31-bit form of 10 R23, the host's word builder of 30 R92, and decoding under another
OPCODE_MAP. `decode` and `encode` use the default numbers of 30 R85 to R89 (PRESUMED: MIX's numbering, spec 92 D1, log 1). -/

namespace Sys2Proof

/-! ## Instruction-word accessors (00 R13) -/

/-- C(instr), the opcode. -/
def Word.opcode (w : Word) : Byte := w.b0

/-- F(instr), the modifier. -/
def Word.modifier (w : Word) : FieldSpec := w.b1

/-- I(instr), the index specifier. -/
def Word.indexField (w : Word) : Byte := w.b2

/-- AA(instr) = 64 × b[4] + b[3]; b[4] is the high byte (DEDUCED, 30 R82, log 33). -/
def Word.addrMag (w : Word) : BitVec 12 := BitVec.ofNat 12 (64 * w.b4.toNat + w.b3.toNat)

/-- The address operand of an instruction word. -/
def Word.addrField (w : Word) : AddrField := ⟨w.sign, w.addrMag, w.indexField⟩

/-! ## The decoder (30 R91) -/

/-- Opcode 5: F = 2 is HLT, every other F a no-op word (30 R86). -/
def decodeSpecial (m : AddrField) (f : FieldSpec) : Instr :=
  match f.toNat with
  | 2 => .hlt m
  | _ => .nopOp5 m f

/-- Opcode 39, the jumps on CI (30 R87). -/
def decodeJump (m : AddrField) (f : FieldSpec) : Instr :=
  match f.toNat with
  | 0 => .jmp m
  | 1 => .jsj m
  | 4 => .jl m
  | 5 => .je m
  | 6 => .jg m
  | 7 => .jge m
  | 8 => .jne m
  | 9 => .jle m
  | _ => .nopOp39 m f

/-- Opcode 40, the jumps on A (30 R88). -/
def decodeJumpA (m : AddrField) (f : FieldSpec) : Instr :=
  match f.toNat with
  | 0 => .jan m
  | 1 => .jaz m
  | 2 => .jap m
  | 3 => .jann m
  | 4 => .janz m
  | 5 => .janp m
  | _ => .nopOp40 m f

/-- Opcode 41, the jumps on I1 (30 R88). -/
def decodeJumpI1 (m : AddrField) (f : FieldSpec) : Instr :=
  match f.toNat with
  | 0 => .j1n m
  | 1 => .j1z m
  | 2 => .j1p m
  | 3 => .j1nn m
  | 4 => .j1nz m
  | 5 => .j1np m
  | _ => .nopOp41 m f

/-- Opcode 42, the jumps on I2 (30 R88). -/
def decodeJumpI2 (m : AddrField) (f : FieldSpec) : Instr :=
  match f.toNat with
  | 0 => .j2n m
  | 1 => .j2z m
  | 2 => .j2p m
  | 3 => .j2nn m
  | 4 => .j2nz m
  | 5 => .j2np m
  | _ => .nopOp42 m f

/-- Opcode 43, the jumps on I3 (30 R88). -/
def decodeJumpI3 (m : AddrField) (f : FieldSpec) : Instr :=
  match f.toNat with
  | 0 => .j3n m
  | 1 => .j3z m
  | 2 => .j3p m
  | 3 => .j3nn m
  | 4 => .j3nz m
  | 5 => .j3np m
  | _ => .nopOp43 m f

/-- Opcode 44, the jumps on I4 (30 R88). -/
def decodeJumpI4 (m : AddrField) (f : FieldSpec) : Instr :=
  match f.toNat with
  | 0 => .j4n m
  | 1 => .j4z m
  | 2 => .j4p m
  | 3 => .j4nn m
  | 4 => .j4nz m
  | 5 => .j4np m
  | _ => .nopOp44 m f

/-- Opcode 45, the jumps on I5 (30 R88). -/
def decodeJumpI5 (m : AddrField) (f : FieldSpec) : Instr :=
  match f.toNat with
  | 0 => .j5n m
  | 1 => .j5z m
  | 2 => .j5p m
  | 3 => .j5nn m
  | 4 => .j5nz m
  | 5 => .j5np m
  | _ => .nopOp45 m f

/-- Opcode 46, the jumps on I6 (30 R88). -/
def decodeJumpI6 (m : AddrField) (f : FieldSpec) : Instr :=
  match f.toNat with
  | 0 => .j6n m
  | 1 => .j6z m
  | 2 => .j6p m
  | 3 => .j6nn m
  | 4 => .j6nz m
  | 5 => .j6np m
  | _ => .nopOp46 m f

/-- Opcode 47, the jumps on X (30 R88). -/
def decodeJumpX (m : AddrField) (f : FieldSpec) : Instr :=
  match f.toNat with
  | 0 => .jxn m
  | 1 => .jxz m
  | 2 => .jxp m
  | 3 => .jxnn m
  | 4 => .jxnz m
  | 5 => .jxnp m
  | _ => .nopOp47 m f

/-- Opcode 48, the address transfers of A (30 R89). -/
def decodeTransferA (m : AddrField) (f : FieldSpec) : Instr :=
  match f.toNat with
  | 0 => .inca m
  | 1 => .deca m
  | 2 => .enta m
  | 3 => .enna m
  | _ => .nopOp48 m f

/-- Opcode 49, the address transfers of I1 (30 R89). -/
def decodeTransferI1 (m : AddrField) (f : FieldSpec) : Instr :=
  match f.toNat with
  | 0 => .inc1 m
  | 1 => .dec1 m
  | 2 => .ent1 m
  | 3 => .enn1 m
  | _ => .nopOp49 m f

/-- Opcode 50, the address transfers of I2 (30 R89). -/
def decodeTransferI2 (m : AddrField) (f : FieldSpec) : Instr :=
  match f.toNat with
  | 0 => .inc2 m
  | 1 => .dec2 m
  | 2 => .ent2 m
  | 3 => .enn2 m
  | _ => .nopOp50 m f

/-- Opcode 51, the address transfers of I3 (30 R89). -/
def decodeTransferI3 (m : AddrField) (f : FieldSpec) : Instr :=
  match f.toNat with
  | 0 => .inc3 m
  | 1 => .dec3 m
  | 2 => .ent3 m
  | 3 => .enn3 m
  | _ => .nopOp51 m f

/-- Opcode 52, the address transfers of I4 (30 R89). -/
def decodeTransferI4 (m : AddrField) (f : FieldSpec) : Instr :=
  match f.toNat with
  | 0 => .inc4 m
  | 1 => .dec4 m
  | 2 => .ent4 m
  | 3 => .enn4 m
  | _ => .nopOp52 m f

/-- Opcode 53, the address transfers of I5 (30 R89). -/
def decodeTransferI5 (m : AddrField) (f : FieldSpec) : Instr :=
  match f.toNat with
  | 0 => .inc5 m
  | 1 => .dec5 m
  | 2 => .ent5 m
  | 3 => .enn5 m
  | _ => .nopOp53 m f

/-- Opcode 54, the address transfers of I6 (30 R89). -/
def decodeTransferI6 (m : AddrField) (f : FieldSpec) : Instr :=
  match f.toNat with
  | 0 => .inc6 m
  | 1 => .dec6 m
  | 2 => .ent6 m
  | 3 => .enn6 m
  | _ => .nopOp54 m f

/-- Opcode 55, the address transfers of X (30 R89). -/
def decodeTransferX (m : AddrField) (f : FieldSpec) : Instr :=
  match f.toNat with
  | 0 => .incx m
  | 1 => .decx m
  | 2 => .entx m
  | 3 => .ennx m
  | _ => .nopOp55 m f

/-- Decode (30 R91): total on all words, looking at C and F only. No encoding is illegal (30 R90). -/
def decode (w : Word) : Instr :=
  let m := w.addrField
  let f := w.modifier
  match w.opcode.toNat with
  | 0 => .unkOp0 m f
  | 1 => .add m f
  | 2 => .sub m f
  | 3 => .mul m f
  | 4 => .div m f
  | 5 => decodeSpecial m f
  | 6 => .unkOp6 m f
  | 7 => .unkOp7 m f
  | 8 => .lda m f
  | 9 => .ld1 m f
  | 10 => .ld2 m f
  | 11 => .ld3 m f
  | 12 => .ld4 m f
  | 13 => .ld5 m f
  | 14 => .ld6 m f
  | 15 => .ldx m f
  | 16 => .unkOp16 m f
  | 17 => .unkOp17 m f
  | 18 => .unkOp18 m f
  | 19 => .unkOp19 m f
  | 20 => .unkOp20 m f
  | 21 => .unkOp21 m f
  | 22 => .unkOp22 m f
  | 23 => .unkOp23 m f
  | 24 => .sta m f
  | 25 => .st1 m f
  | 26 => .st2 m f
  | 27 => .st3 m f
  | 28 => .st4 m f
  | 29 => .st5 m f
  | 30 => .st6 m f
  | 31 => .stx m f
  | 32 => .stj m f
  | 33 => .stz m f
  | 34 => .unkOp34 m f
  | 35 => .unkOp35 m f
  | 36 => .unkOp36 m f
  | 37 => .unkOp37 m f
  | 38 => .unkOp38 m f
  | 39 => decodeJump m f
  | 40 => decodeJumpA m f
  | 41 => decodeJumpI1 m f
  | 42 => decodeJumpI2 m f
  | 43 => decodeJumpI3 m f
  | 44 => decodeJumpI4 m f
  | 45 => decodeJumpI5 m f
  | 46 => decodeJumpI6 m f
  | 47 => decodeJumpX m f
  | 48 => decodeTransferA m f
  | 49 => decodeTransferI1 m f
  | 50 => decodeTransferI2 m f
  | 51 => decodeTransferI3 m f
  | 52 => decodeTransferI4 m f
  | 53 => decodeTransferI5 m f
  | 54 => decodeTransferI6 m f
  | 55 => decodeTransferX m f
  | 56 => .cmpa m f
  | 57 => .cmp1 m f
  | 58 => .cmp2 m f
  | 59 => .cmp3 m f
  | 60 => .cmp4 m f
  | 61 => .cmp5 m f
  | 62 => .cmp6 m f
  | _ => .cmpx m f  -- 63, the one value left: an opcode is below 64

/-! ## The encoder -/

/-- The word with opcode `c`, modifier `f` and address operand `m` (30 R80). -/
def instrOf (c : Byte) (f : FieldSpec) (m : AddrField) : Word :=
  ⟨m.neg, BitVec.ofNat 6 (m.mag.toNat / 64), BitVec.ofNat 6 (m.mag.toNat % 64), m.index, f, c⟩

/-- The word of an instruction, from the opcode map of 30 R85 to R89. -/
def encode : Instr → Word
  | .add m f => instrOf 1 f m
  | .sub m f => instrOf 2 f m
  | .mul m f => instrOf 3 f m
  | .div m f => instrOf 4 f m
  | .hlt m => instrOf 5 2 m
  | .nopOp5 m f => instrOf 5 f m
  | .lda m f => instrOf 8 f m
  | .ld1 m f => instrOf 9 f m
  | .ld2 m f => instrOf 10 f m
  | .ld3 m f => instrOf 11 f m
  | .ld4 m f => instrOf 12 f m
  | .ld5 m f => instrOf 13 f m
  | .ld6 m f => instrOf 14 f m
  | .ldx m f => instrOf 15 f m
  | .sta m f => instrOf 24 f m
  | .st1 m f => instrOf 25 f m
  | .st2 m f => instrOf 26 f m
  | .st3 m f => instrOf 27 f m
  | .st4 m f => instrOf 28 f m
  | .st5 m f => instrOf 29 f m
  | .st6 m f => instrOf 30 f m
  | .stx m f => instrOf 31 f m
  | .stj m f => instrOf 32 f m
  | .stz m f => instrOf 33 f m
  | .jmp m => instrOf 39 0 m
  | .jsj m => instrOf 39 1 m
  | .jl m => instrOf 39 4 m
  | .je m => instrOf 39 5 m
  | .jg m => instrOf 39 6 m
  | .jge m => instrOf 39 7 m
  | .jne m => instrOf 39 8 m
  | .jle m => instrOf 39 9 m
  | .nopOp39 m f => instrOf 39 f m
  | .jan m => instrOf 40 0 m
  | .jaz m => instrOf 40 1 m
  | .jap m => instrOf 40 2 m
  | .jann m => instrOf 40 3 m
  | .janz m => instrOf 40 4 m
  | .janp m => instrOf 40 5 m
  | .nopOp40 m f => instrOf 40 f m
  | .j1n m => instrOf 41 0 m
  | .j1z m => instrOf 41 1 m
  | .j1p m => instrOf 41 2 m
  | .j1nn m => instrOf 41 3 m
  | .j1nz m => instrOf 41 4 m
  | .j1np m => instrOf 41 5 m
  | .nopOp41 m f => instrOf 41 f m
  | .j2n m => instrOf 42 0 m
  | .j2z m => instrOf 42 1 m
  | .j2p m => instrOf 42 2 m
  | .j2nn m => instrOf 42 3 m
  | .j2nz m => instrOf 42 4 m
  | .j2np m => instrOf 42 5 m
  | .nopOp42 m f => instrOf 42 f m
  | .j3n m => instrOf 43 0 m
  | .j3z m => instrOf 43 1 m
  | .j3p m => instrOf 43 2 m
  | .j3nn m => instrOf 43 3 m
  | .j3nz m => instrOf 43 4 m
  | .j3np m => instrOf 43 5 m
  | .nopOp43 m f => instrOf 43 f m
  | .j4n m => instrOf 44 0 m
  | .j4z m => instrOf 44 1 m
  | .j4p m => instrOf 44 2 m
  | .j4nn m => instrOf 44 3 m
  | .j4nz m => instrOf 44 4 m
  | .j4np m => instrOf 44 5 m
  | .nopOp44 m f => instrOf 44 f m
  | .j5n m => instrOf 45 0 m
  | .j5z m => instrOf 45 1 m
  | .j5p m => instrOf 45 2 m
  | .j5nn m => instrOf 45 3 m
  | .j5nz m => instrOf 45 4 m
  | .j5np m => instrOf 45 5 m
  | .nopOp45 m f => instrOf 45 f m
  | .j6n m => instrOf 46 0 m
  | .j6z m => instrOf 46 1 m
  | .j6p m => instrOf 46 2 m
  | .j6nn m => instrOf 46 3 m
  | .j6nz m => instrOf 46 4 m
  | .j6np m => instrOf 46 5 m
  | .nopOp46 m f => instrOf 46 f m
  | .jxn m => instrOf 47 0 m
  | .jxz m => instrOf 47 1 m
  | .jxp m => instrOf 47 2 m
  | .jxnn m => instrOf 47 3 m
  | .jxnz m => instrOf 47 4 m
  | .jxnp m => instrOf 47 5 m
  | .nopOp47 m f => instrOf 47 f m
  | .inca m => instrOf 48 0 m
  | .deca m => instrOf 48 1 m
  | .enta m => instrOf 48 2 m
  | .enna m => instrOf 48 3 m
  | .nopOp48 m f => instrOf 48 f m
  | .inc1 m => instrOf 49 0 m
  | .dec1 m => instrOf 49 1 m
  | .ent1 m => instrOf 49 2 m
  | .enn1 m => instrOf 49 3 m
  | .nopOp49 m f => instrOf 49 f m
  | .inc2 m => instrOf 50 0 m
  | .dec2 m => instrOf 50 1 m
  | .ent2 m => instrOf 50 2 m
  | .enn2 m => instrOf 50 3 m
  | .nopOp50 m f => instrOf 50 f m
  | .inc3 m => instrOf 51 0 m
  | .dec3 m => instrOf 51 1 m
  | .ent3 m => instrOf 51 2 m
  | .enn3 m => instrOf 51 3 m
  | .nopOp51 m f => instrOf 51 f m
  | .inc4 m => instrOf 52 0 m
  | .dec4 m => instrOf 52 1 m
  | .ent4 m => instrOf 52 2 m
  | .enn4 m => instrOf 52 3 m
  | .nopOp52 m f => instrOf 52 f m
  | .inc5 m => instrOf 53 0 m
  | .dec5 m => instrOf 53 1 m
  | .ent5 m => instrOf 53 2 m
  | .enn5 m => instrOf 53 3 m
  | .nopOp53 m f => instrOf 53 f m
  | .inc6 m => instrOf 54 0 m
  | .dec6 m => instrOf 54 1 m
  | .ent6 m => instrOf 54 2 m
  | .enn6 m => instrOf 54 3 m
  | .nopOp54 m f => instrOf 54 f m
  | .incx m => instrOf 55 0 m
  | .decx m => instrOf 55 1 m
  | .entx m => instrOf 55 2 m
  | .ennx m => instrOf 55 3 m
  | .nopOp55 m f => instrOf 55 f m
  | .cmpa m f => instrOf 56 f m
  | .cmp1 m f => instrOf 57 f m
  | .cmp2 m f => instrOf 58 f m
  | .cmp3 m f => instrOf 59 f m
  | .cmp4 m f => instrOf 60 f m
  | .cmp5 m f => instrOf 61 f m
  | .cmp6 m f => instrOf 62 f m
  | .cmpx m f => instrOf 63 f m
  | .unkOp0 m f => instrOf 0 f m
  | .unkOp6 m f => instrOf 6 f m
  | .unkOp7 m f => instrOf 7 f m
  | .unkOp16 m f => instrOf 16 f m
  | .unkOp17 m f => instrOf 17 f m
  | .unkOp18 m f => instrOf 18 f m
  | .unkOp19 m f => instrOf 19 f m
  | .unkOp20 m f => instrOf 20 f m
  | .unkOp21 m f => instrOf 21 f m
  | .unkOp22 m f => instrOf 22 f m
  | .unkOp23 m f => instrOf 23 f m
  | .unkOp34 m f => instrOf 34 f m
  | .unkOp35 m f => instrOf 35 f m
  | .unkOp36 m f => instrOf 36 f m
  | .unkOp37 m f => instrOf 37 f m
  | .unkOp38 m f => instrOf 38 f m

/-! ## The packed form of a word (10 R23; DESIGN CHOICE of the spec, 92 D2, log 2) -/

/-- Bit 30 is the sign, bits [6i+5 : 6i] are byte i; the powers 2^30, 64^4, 64^3, 64^2 are written out. -/
def Word.pack (w : Word) : Nat :=
  (if w.sign then 1073741824 else 0) + 16777216 * w.b4.toNat + 262144 * w.b3.toNat + 4096 * w.b2.toNat
    + 64 * w.b1.toNat + w.b0.toNat

/-- The word whose packed form is the low 31 bits of `n`. -/
def Word.unpack (n : Nat) : Word :=
  ⟨decide (n / 1073741824 % 2 = 1), BitVec.ofNat 6 (n / 16777216), BitVec.ofNat 6 (n / 262144), BitVec.ofNat 6 (n / 4096),
    BitVec.ofNat 6 (n / 64), BitVec.ofNat 6 n⟩

/-- Why a numeral is no instruction. -/
inductive DecodeError where
  /-- The numeral does not fit the 31 bits of a Word (log 31). Raised by `decodePacked`. Safe: no such word exists. -/
  | notAWord (n : Nat)
  deriving DecidableEq, Repr

/-- The instruction a packed word stands for; a numeral of 2^31 = 2147483648 or more is no Word and is rejected by
name. -/
def decodePacked (n : Nat) : Except DecodeError Instr :=
  if n < 2147483648 then .ok (decode (Word.unpack n)) else .error (.notAWord n)

/-- The decoder on an instruction whose bits are `w`, numbered as spec/opcode_table.json numbers them: one Word,
bit 0 least significant. The bits above `nbits` are 0. -/
def decodeTableWord (nbits w : Nat) : Option Instr :=
  match decodePacked (w % 2 ^ nbits) with
  | .ok i => some i
  | .error _ => none

/-! ## Other opcode maps (00 R8; 92 D1: only decoding changes) -/

/-- The default number of the opcode numbered `c` here. -/
def OpcodeMap.opcode (p : OpcodeMap) (c : Byte) : Byte :=
  match p.opcodes.find? fun e => e.1 == c with
  | some e => e.2
  | none => c

/-- The default number of the sub-mode numbered `f` here, of the opcode with default number `c`. -/
def OpcodeMap.submode (p : OpcodeMap) (c : Byte) (f : FieldSpec) : FieldSpec :=
  match p.submodes.find? fun e => e.1 == c && e.2.1 == f with
  | some e => e.2.2
  | none => f

/-- F of the opcode with default number `c` is a sub-mode: 5 and 39..55 (30 R86 to R89). Elsewhere F is a field
specification and has no map. -/
def hasSubmodes (c : Byte) : Bool := c.toNat == 5 || decide (39 ≤ c.toNat ∧ c.toNat ≤ 55)

/-- The word in the default numbering. -/
def OpcodeMap.standard (p : OpcodeMap) (w : Word) : Word :=
  let c := p.opcode w.opcode
  { w with b0 := c, b1 := if hasSubmodes c then p.submode c w.modifier else w.modifier }

/-- Decode under an opcode map. -/
def decodeIn (p : OpcodeMap) (w : Word) : Instr := decode (p.standard w)

/-! ## The host's word builder (30 R92) -/

/-- Instr(op, address, index, F): the word, or none where an argument is outside its range, which the host refuses
(DESIGN CHOICE of the spec, 92 D18, log 18). -/
def instrWord (op : Nat) (address : Int) (index : Nat) (f : Nat) : Option Word :=
  if op ≤ 63 ∧ address.natAbs ≤ 4095 ∧ index ≤ 6 ∧ f ≤ 63 then
    some ⟨decide (address < 0), BitVec.ofNat 6 (address.natAbs / 64), BitVec.ofNat 6 (address.natAbs % 64),
      BitVec.ofNat 6 index, BitVec.ofNat 6 f, BitVec.ofNat 6 op⟩
  else none

/-- Instr(op, address, index): the default modifier is the whole word, F = 5 (30 R92). -/
def instrWordDefault (op : Nat) (address : Int) (index : Nat) : Option Word := instrWord op address index 5

/-! ## The opcode table's own columns -/

/-- `match` and `mask` of the instruction's row in spec/opcode_table.json, over the packed word: the mask is 0x3F
where the row fixes the opcode, 0xFFF where it fixes opcode and sub-mode. -/
def Instr.tableRow : Instr → Nat × Nat
  | .add _ _ => (0x00000001, 0x0000003F)
  | .sub _ _ => (0x00000002, 0x0000003F)
  | .mul _ _ => (0x00000003, 0x0000003F)
  | .div _ _ => (0x00000004, 0x0000003F)
  | .hlt _ => (0x00000085, 0x00000FFF)
  | .nopOp5 _ _ => (0x00000005, 0x0000003F)
  | .lda _ _ => (0x00000008, 0x0000003F)
  | .ld1 _ _ => (0x00000009, 0x0000003F)
  | .ld2 _ _ => (0x0000000A, 0x0000003F)
  | .ld3 _ _ => (0x0000000B, 0x0000003F)
  | .ld4 _ _ => (0x0000000C, 0x0000003F)
  | .ld5 _ _ => (0x0000000D, 0x0000003F)
  | .ld6 _ _ => (0x0000000E, 0x0000003F)
  | .ldx _ _ => (0x0000000F, 0x0000003F)
  | .sta _ _ => (0x00000018, 0x0000003F)
  | .st1 _ _ => (0x00000019, 0x0000003F)
  | .st2 _ _ => (0x0000001A, 0x0000003F)
  | .st3 _ _ => (0x0000001B, 0x0000003F)
  | .st4 _ _ => (0x0000001C, 0x0000003F)
  | .st5 _ _ => (0x0000001D, 0x0000003F)
  | .st6 _ _ => (0x0000001E, 0x0000003F)
  | .stx _ _ => (0x0000001F, 0x0000003F)
  | .stj _ _ => (0x00000020, 0x0000003F)
  | .stz _ _ => (0x00000021, 0x0000003F)
  | .jmp _ => (0x00000027, 0x00000FFF)
  | .jsj _ => (0x00000067, 0x00000FFF)
  | .jl _ => (0x00000127, 0x00000FFF)
  | .je _ => (0x00000167, 0x00000FFF)
  | .jg _ => (0x000001A7, 0x00000FFF)
  | .jge _ => (0x000001E7, 0x00000FFF)
  | .jne _ => (0x00000227, 0x00000FFF)
  | .jle _ => (0x00000267, 0x00000FFF)
  | .nopOp39 _ _ => (0x00000027, 0x0000003F)
  | .jan _ => (0x00000028, 0x00000FFF)
  | .jaz _ => (0x00000068, 0x00000FFF)
  | .jap _ => (0x000000A8, 0x00000FFF)
  | .jann _ => (0x000000E8, 0x00000FFF)
  | .janz _ => (0x00000128, 0x00000FFF)
  | .janp _ => (0x00000168, 0x00000FFF)
  | .nopOp40 _ _ => (0x00000028, 0x0000003F)
  | .j1n _ => (0x00000029, 0x00000FFF)
  | .j1z _ => (0x00000069, 0x00000FFF)
  | .j1p _ => (0x000000A9, 0x00000FFF)
  | .j1nn _ => (0x000000E9, 0x00000FFF)
  | .j1nz _ => (0x00000129, 0x00000FFF)
  | .j1np _ => (0x00000169, 0x00000FFF)
  | .nopOp41 _ _ => (0x00000029, 0x0000003F)
  | .j2n _ => (0x0000002A, 0x00000FFF)
  | .j2z _ => (0x0000006A, 0x00000FFF)
  | .j2p _ => (0x000000AA, 0x00000FFF)
  | .j2nn _ => (0x000000EA, 0x00000FFF)
  | .j2nz _ => (0x0000012A, 0x00000FFF)
  | .j2np _ => (0x0000016A, 0x00000FFF)
  | .nopOp42 _ _ => (0x0000002A, 0x0000003F)
  | .j3n _ => (0x0000002B, 0x00000FFF)
  | .j3z _ => (0x0000006B, 0x00000FFF)
  | .j3p _ => (0x000000AB, 0x00000FFF)
  | .j3nn _ => (0x000000EB, 0x00000FFF)
  | .j3nz _ => (0x0000012B, 0x00000FFF)
  | .j3np _ => (0x0000016B, 0x00000FFF)
  | .nopOp43 _ _ => (0x0000002B, 0x0000003F)
  | .j4n _ => (0x0000002C, 0x00000FFF)
  | .j4z _ => (0x0000006C, 0x00000FFF)
  | .j4p _ => (0x000000AC, 0x00000FFF)
  | .j4nn _ => (0x000000EC, 0x00000FFF)
  | .j4nz _ => (0x0000012C, 0x00000FFF)
  | .j4np _ => (0x0000016C, 0x00000FFF)
  | .nopOp44 _ _ => (0x0000002C, 0x0000003F)
  | .j5n _ => (0x0000002D, 0x00000FFF)
  | .j5z _ => (0x0000006D, 0x00000FFF)
  | .j5p _ => (0x000000AD, 0x00000FFF)
  | .j5nn _ => (0x000000ED, 0x00000FFF)
  | .j5nz _ => (0x0000012D, 0x00000FFF)
  | .j5np _ => (0x0000016D, 0x00000FFF)
  | .nopOp45 _ _ => (0x0000002D, 0x0000003F)
  | .j6n _ => (0x0000002E, 0x00000FFF)
  | .j6z _ => (0x0000006E, 0x00000FFF)
  | .j6p _ => (0x000000AE, 0x00000FFF)
  | .j6nn _ => (0x000000EE, 0x00000FFF)
  | .j6nz _ => (0x0000012E, 0x00000FFF)
  | .j6np _ => (0x0000016E, 0x00000FFF)
  | .nopOp46 _ _ => (0x0000002E, 0x0000003F)
  | .jxn _ => (0x0000002F, 0x00000FFF)
  | .jxz _ => (0x0000006F, 0x00000FFF)
  | .jxp _ => (0x000000AF, 0x00000FFF)
  | .jxnn _ => (0x000000EF, 0x00000FFF)
  | .jxnz _ => (0x0000012F, 0x00000FFF)
  | .jxnp _ => (0x0000016F, 0x00000FFF)
  | .nopOp47 _ _ => (0x0000002F, 0x0000003F)
  | .inca _ => (0x00000030, 0x00000FFF)
  | .deca _ => (0x00000070, 0x00000FFF)
  | .enta _ => (0x000000B0, 0x00000FFF)
  | .enna _ => (0x000000F0, 0x00000FFF)
  | .nopOp48 _ _ => (0x00000030, 0x0000003F)
  | .inc1 _ => (0x00000031, 0x00000FFF)
  | .dec1 _ => (0x00000071, 0x00000FFF)
  | .ent1 _ => (0x000000B1, 0x00000FFF)
  | .enn1 _ => (0x000000F1, 0x00000FFF)
  | .nopOp49 _ _ => (0x00000031, 0x0000003F)
  | .inc2 _ => (0x00000032, 0x00000FFF)
  | .dec2 _ => (0x00000072, 0x00000FFF)
  | .ent2 _ => (0x000000B2, 0x00000FFF)
  | .enn2 _ => (0x000000F2, 0x00000FFF)
  | .nopOp50 _ _ => (0x00000032, 0x0000003F)
  | .inc3 _ => (0x00000033, 0x00000FFF)
  | .dec3 _ => (0x00000073, 0x00000FFF)
  | .ent3 _ => (0x000000B3, 0x00000FFF)
  | .enn3 _ => (0x000000F3, 0x00000FFF)
  | .nopOp51 _ _ => (0x00000033, 0x0000003F)
  | .inc4 _ => (0x00000034, 0x00000FFF)
  | .dec4 _ => (0x00000074, 0x00000FFF)
  | .ent4 _ => (0x000000B4, 0x00000FFF)
  | .enn4 _ => (0x000000F4, 0x00000FFF)
  | .nopOp52 _ _ => (0x00000034, 0x0000003F)
  | .inc5 _ => (0x00000035, 0x00000FFF)
  | .dec5 _ => (0x00000075, 0x00000FFF)
  | .ent5 _ => (0x000000B5, 0x00000FFF)
  | .enn5 _ => (0x000000F5, 0x00000FFF)
  | .nopOp53 _ _ => (0x00000035, 0x0000003F)
  | .inc6 _ => (0x00000036, 0x00000FFF)
  | .dec6 _ => (0x00000076, 0x00000FFF)
  | .ent6 _ => (0x000000B6, 0x00000FFF)
  | .enn6 _ => (0x000000F6, 0x00000FFF)
  | .nopOp54 _ _ => (0x00000036, 0x0000003F)
  | .incx _ => (0x00000037, 0x00000FFF)
  | .decx _ => (0x00000077, 0x00000FFF)
  | .entx _ => (0x000000B7, 0x00000FFF)
  | .ennx _ => (0x000000F7, 0x00000FFF)
  | .nopOp55 _ _ => (0x00000037, 0x0000003F)
  | .cmpa _ _ => (0x00000038, 0x0000003F)
  | .cmp1 _ _ => (0x00000039, 0x0000003F)
  | .cmp2 _ _ => (0x0000003A, 0x0000003F)
  | .cmp3 _ _ => (0x0000003B, 0x0000003F)
  | .cmp4 _ _ => (0x0000003C, 0x0000003F)
  | .cmp5 _ _ => (0x0000003D, 0x0000003F)
  | .cmp6 _ _ => (0x0000003E, 0x0000003F)
  | .cmpx _ _ => (0x0000003F, 0x0000003F)
  | .unkOp0 _ _ => (0x00000000, 0x0000003F)
  | .unkOp6 _ _ => (0x00000006, 0x0000003F)
  | .unkOp7 _ _ => (0x00000007, 0x0000003F)
  | .unkOp16 _ _ => (0x00000010, 0x0000003F)
  | .unkOp17 _ _ => (0x00000011, 0x0000003F)
  | .unkOp18 _ _ => (0x00000012, 0x0000003F)
  | .unkOp19 _ _ => (0x00000013, 0x0000003F)
  | .unkOp20 _ _ => (0x00000014, 0x0000003F)
  | .unkOp21 _ _ => (0x00000015, 0x0000003F)
  | .unkOp22 _ _ => (0x00000016, 0x0000003F)
  | .unkOp23 _ _ => (0x00000017, 0x0000003F)
  | .unkOp34 _ _ => (0x00000022, 0x0000003F)
  | .unkOp35 _ _ => (0x00000023, 0x0000003F)
  | .unkOp36 _ _ => (0x00000024, 0x0000003F)
  | .unkOp37 _ _ => (0x00000025, 0x0000003F)
  | .unkOp38 _ _ => (0x00000026, 0x0000003F)

end Sys2Proof
end

