-- ==== Sys2Proof/Machine/State.lean ====
section
/-! DEFINITION. The state of the machine (10 R20), the reasons a step can stop, construction and reset (10 R34). -/

namespace Sys2Proof.Machine

/-- The registers an instruction can name (00 R12). -/
inductive Reg where
  | a | x | i1 | i2 | i3 | i4 | i5 | i6 | j
  deriving DecidableEq, Repr

/-- The comparison indicator, the only flag (10 R29). -/
inductive CI where
  | less | equal | greater
  deriving DecidableEq, Repr

/-- The fault kinds of 60 R342, each with what it records. All are safe: the source's behaviour is undefined there
and the model claims nothing about it (00 R6). -/
inductive Fault where
  /-- The pc is outside 0..3999 at a fetch. Raised by the loop before decoding (70 R375). Safe. -/
  | fetchOutOfRange (pc : Int)
  /-- The index field is 7..63. Raised by every instruction that computes an effective address (20 R61). Safe. -/
  | indexInvalid (i : Byte)
  /-- F is no field specification. Raised by ADD, SUB, MUL, DIV, the loads, stores and compares (20 R59). Safe. -/
  | fieldSpecInvalid (f : FieldSpec)
  /-- A data address outside 0..3999. Raised by ADD, SUB, MUL, DIV, the loads, stores and compares (20 R52). Safe. -/
  | memoryOutOfRange (a : Int)
  /-- The divisor's value is 0. Raised by DIV (40 R103). Safe. -/
  | divideByZero
  /-- The quotient's magnitude is 2^30 or more. Raised by DIV (40 R103). Safe. -/
  | quotientOverflow
  /-- A result's magnitude is 2^30 or more under ARITH_OVERFLOW = fault. Raised by ADD, SUB, INC, DEC, ENT, ENN
  (10 R25). Safe. -/
  | arithmeticOverflow
  deriving DecidableEq, Repr

/-- Why a step could have no meaning. -/
inductive Refusal where
  /-- The instruction has no meaning yet. Raised by a refused arm of `exec`; this model has none. Safe. -/
  | notModelled (mnemonic : String)
  deriving DecidableEq, Repr

/-- The run status (10 R31). -/
inductive Status where
  | running | halted | faulted (k : Fault)
  deriving DecidableEq, Repr

/-- Memory: (address, word) pairs, addresses strictly rising, none holding +0, which is what an unlisted address
reads as (log 21, log 22). -/
abbrev Memory := List (Nat × Word)

/-- The whole state (10 R20). `pc` is an integer with no width (10 R30). `params` are the open parameters, which no
step writes (log 32). -/
structure State where
  a : Word
  x : Word
  i1 : Word
  i2 : Word
  i3 : Word
  i4 : Word
  i5 : Word
  i6 : Word
  j : Word
  ci : CI
  pc : Int
  mem : Memory
  status : Status
  params : Params
  deriving DecidableEq, Repr

/-- The machine the host constructs (10 R34): memory +0 everywhere, CI EQUAL, registers INIT_REGS, pc START_PC. The
status is RUNNING already at construction (DESIGN CHOICE, log 34): the spec gives it only for when run() is invoked. -/
def State.construct (p : Params) (r : InitRegs) (startPc : Int) : State where
  a := r.a
  x := r.x
  i1 := r.i1
  i2 := r.i2
  i3 := r.i3
  i4 := r.i4
  i5 := r.i5
  i6 := r.i6
  j := r.j
  ci := .equal
  pc := startPc
  mem := []
  status := .running
  params := p

/-- The machine right after reset: construction with the spec's defaults (logs 1, 8 to 12), RUNNING (log 34). -/
def State.reset : State := State.construct .default .default startPcDefault

end Sys2Proof.Machine
end

