-- ==== Sys2Proof/Machine/Ops.lean ====
section
/-! DEFINITION. The operations every instruction is built from: a word's number and back (10 R24 to R26), registers,
memory, fetch (20 R52, R53; 70 R375), the ways an instruction ends, and faulting (60 R341). -/

namespace Sys2Proof.Machine

/-! ## Words and integers -/

/-- mag(w) = Σ b[i] × 64^i (10 R24), the powers of 64 written out. -/
def mag (w : Word) : Nat :=
  w.b0.toNat + 64 * w.b1.toNat + 4096 * w.b2.toNat + 262144 * w.b3.toNat + 16777216 * w.b4.toNat

/-- val(w), the signed value; both zeros give 0 (10 R24). -/
def val (w : Word) : Int := if w.sign then -(mag w : Int) else mag w

/-- The word with the given sign and the low 30 bits of `n` as its magnitude: b[i] = (n div 64^i) mod 64. -/
def wordOfMag (sign : Bool) (n : Nat) : Word :=
  ⟨sign, BitVec.ofNat 6 (n / 16777216), BitVec.ofNat 6 (n / 262144), BitVec.ofNat 6 (n / 4096), BitVec.ofNat 6 (n / 64),
    BitVec.ofNat 6 n⟩

/-- WordOf(v) (10 R25). The sign is v's, also where truncation leaves magnitude 0. -/
def wordOf (o : ArithOverflow) (v : Int) : Except Fault Word :=
  if v.natAbs < 2 ^ 30 then .ok (wordOfMag (decide (v < 0)) v.natAbs)
  else
    match o with
    | .fault => .error .arithmeticOverflow
    | .truncate => .ok (wordOfMag (decide (v < 0)) (v.natAbs % 2 ^ 30))

/-- ZWordOf(v, old): WordOf with the zero-sign policy (10 R26). -/
def zWordOf (p : Params) (v : Int) (old : Word) : Except Fault Word :=
  if v = 0 ∧ p.zeroResultSign = .keep then .ok (Word.zero old.sign) else wordOf p.arithOverflow v

/-! ## Registers and the other fields -/

/-- x[r] (00 R12). No register is hardwired (10 R33). -/
def State.reg (s : State) (r : Reg) : Word :=
  match r with
  | .a => s.a
  | .x => s.x
  | .i1 => s.i1
  | .i2 => s.i2
  | .i3 => s.i3
  | .i4 => s.i4
  | .i5 => s.i5
  | .i6 => s.i6
  | .j => s.j

/-- x[r] ← w (00 R12). -/
def State.setReg (s : State) (r : Reg) (w : Word) : State :=
  match r with
  | .a => { s with a := w }
  | .x => { s with x := w }
  | .i1 => { s with i1 := w }
  | .i2 => { s with i2 := w }
  | .i3 => { s with i3 := w }
  | .i4 => { s with i4 := w }
  | .i5 => { s with i5 := w }
  | .i6 => { s with i6 := w }
  | .j => { s with j := w }

/-- CI ← c. -/
def State.setCI (s : State) (c : CI) : State := { s with ci := c }

/-- pc ← t. -/
def State.setPc (s : State) (t : Int) : State := { s with pc := t }

/-- The memory replaced. -/
def State.setMem (s : State) (m : Memory) : State := { s with mem := m }

/-- The status replaced. -/
def State.setStatus (s : State) (t : Status) : State := { s with status := t }

/-! ## Memory -/

/-- What an unlisted address reads as: +0, the reset contents (10 R34, log 22). -/
def unlistedWord : Word := Word.plusZero

/-- The word listed at `a`, or what an unlisted address reads as. -/
def Memory.read : Memory → Nat → Word
  | [], _ => unlistedWord
  | (b, v) :: rest, a => if b = a then v else Memory.read rest a

/-- `w` put at `a` in rising order of addresses, where `a` is not listed. -/
def Memory.insert : Memory → Nat → Word → Memory
  | [], a, w => [(a, w)]
  | (b, v) :: rest, a, w => if a < b then (a, w) :: (b, v) :: rest else (b, v) :: Memory.insert rest a w

/-- The memory without an entry at `a`. -/
def Memory.erase : Memory → Nat → Memory
  | [], _ => []
  | (b, v) :: rest, a => if b = a then Memory.erase rest a else (b, v) :: Memory.erase rest a

/-- The memory with `w` at `a`, in canonical form: writing what an unlisted address reads as removes the entry. -/
def Memory.write (m : Memory) (a : Nat) (w : Word) : Memory :=
  if w = unlistedWord then m.erase a else (m.erase a).insert a w

/-- Canonical from address `lo` on: rising, inside 0..3999, no entry equal to what an unlisted address reads as. -/
def Memory.wfFrom : Nat → Memory → Bool
  | _, [] => true
  | lo, (a, w) :: rest => decide (lo ≤ a) && decide (a ≤ 3999) && decide (w ≠ unlistedWord) && wfFrom (a + 1) rest

/-- The canonical form of memory. -/
def Memory.wf (m : Memory) : Bool := m.wfFrom 0

/-- The integer is an address of memory: 0..3999 (20 R50). -/
def inMemory (a : Int) : Bool := decide (0 ≤ a) && decide (a ≤ 3999)

/-- MemRead(a, 1) (20 R52). -/
def memRead (s : State) (a : Int) : Except Fault Word :=
  if inMemory a then .ok (s.mem.read a.toNat) else .error (.memoryOutOfRange a)

/-- MemWrite(a, 1, w) (20 R53). -/
def memWrite (s : State) (a : Int) (w : Word) : Except Fault State :=
  if inMemory a then .ok (s.setMem (s.mem.write a.toNat w)) else .error (.memoryOutOfRange a)

/-- Fetch() (70 R375): the word at pc. -/
def fetch (s : State) : Except Fault Word :=
  if inMemory s.pc then .ok (s.mem.read s.pc.toNat) else .error (.fetchOutOfRange s.pc)

/-! ## How an instruction ends -/

/-- The three outcomes of a step. -/
abbrev StepOutcome := Host.Outcome State Fault Refusal

/-- A fault stops the step with its kind; no write of the instruction takes effect (60 R341). -/
def finish (r : Except Fault State) : StepOutcome :=
  match r with
  | .ok s => .next s
  | .error k => .fault k

/-- next_pc = pc + 1, the fall-through successor (70 R374). -/
def nextPc (s : State) : Int := s.pc + 1

/-- pc ← next_pc (70 R374). -/
def advance (s : State) : State := s.setPc (nextPc s)

/-- A no-op word: pc ← next_pc and nothing else; no field is examined (30 R90). -/
def noOp (s : State) : State := advance s

/-- HLT: status ← HALTED; pc keeps the HLT's address (41 R120). -/
def halt (s : State) : State := s.setStatus .halted

/-- The state in which a fault leaves the machine (60 R341): everything as it was, pc at the faulting instruction,
status FAULTED(kind). -/
def afterFault (s : State) (k : Fault) : State := s.setStatus (.faulted k)

/-! ## What the host may do before a run (70 R370) -/

/-- The host places a word in memory. -/
def hostStore (s : State) (a : Nat) (w : Word) : State :=
  if a ≤ 3999 then s.setMem (s.mem.write a w) else s

/-- The host invokes run(): status ← RUNNING (70 R376). -/
def State.start (s : State) : State := s.setStatus .running

end Sys2Proof.Machine
end

