-- ==== Sys2Proof/Machine/Operands.lean ====
section
/-! DEFINITION. The field unit (20 R55 to R60), the indexed address generator (20 R61, R62) and the operand fetch
that instructions share (40 R104). -/

namespace Sys2Proof.Machine

/-! ## Field specifications -/

/-- L(F) = F div 8 (20 R55). -/
def fieldL (f : FieldSpec) : Nat := f.toNat / 8

/-- R(F) = F mod 8 (20 R55). -/
def fieldR (f : FieldSpec) : Nat := f.toNat % 8

/-- FieldOK(F): L ≤ R ≤ 5 (20 R56). -/
def fieldOK (f : FieldSpec) : Bool := decide (fieldL f ≤ fieldR f) && decide (fieldR f ≤ 5)

/-- The number of bytes the field covers (20 R56). -/
def fieldCount (f : FieldSpec) : Nat := if fieldL f = 0 then fieldR f else fieldR f - fieldL f + 1

/-- The index of the field's lowest byte (20 R56). -/
def fieldLo (f : FieldSpec) : Nat := 5 - fieldR f

/-- Field(w, F): the field's bytes right-justified, the sign only where L = 0 (20 R57). -/
def field (w : Word) (f : FieldSpec) : Word :=
  let byte := fun k => if k < fieldCount f then w.byte (fieldLo f + k) else 0
  ⟨if fieldL f = 0 then w.sign else false, byte 4, byte 3, byte 2, byte 1, byte 0⟩

/-- SetField(d, F, s): the low bytes of `s` into the field of `d`, the sign only where L = 0 (20 R58). -/
def setField (d : Word) (f : FieldSpec) (s : Word) : Word :=
  let byte := fun i => if fieldLo f ≤ i ∧ i < fieldLo f + fieldCount f then s.byte (i - fieldLo f) else d.byte i
  ⟨if fieldL f = 0 then s.sign else d.sign, byte 4, byte 3, byte 2, byte 1, byte 0⟩

/-- The check every instruction makes that reads F as a field specification (20 R59). -/
def checkField (f : FieldSpec) : Except Fault Unit :=
  if fieldOK f then .ok () else .error (.fieldSpecInvalid f)

/-! ## The indexed address generator -/

/-- addr(instr), the signed address (30 R82); both zeros give 0. -/
def addrValue (m : AddrField) : Int := if m.neg then -(m.mag.toNat : Int) else m.mag.toNat

/-- What the index field adds: nothing for 0, val(Ik) for k = 1..6 (20 R61, 30 R84). -/
def indexTerm (index : Byte) (i1 i2 i3 i4 i5 i6 : Word) : Int :=
  match index.toNat with
  | 1 => val i1
  | 2 => val i2
  | 3 => val i3
  | 4 => val i4
  | 5 => val i5
  | 6 => val i6
  | _ => 0

/-- The index field is inside its specified range 0..6 (30 R84). -/
def indexOK (m : AddrField) : Bool := decide (m.index.toNat ≤ 6)

/-- The effective address of an operand whose index field is 0..6: an exact integer (20 R61). -/
def eaValue (m : AddrField) (s : State) : Int := addrValue m + indexTerm m.index s.i1 s.i2 s.i3 s.i4 s.i5 s.i6

/-- EA(instr) (20 R61). -/
def ea (m : AddrField) (s : State) : Except Fault Int :=
  if indexOK m then .ok (eaValue m s) else .error (.indexInvalid m.index)

/-- Operand(instr) (40 R104): address, field check, memory read, field, in this order. -/
def operand (m : AddrField) (f : FieldSpec) (s : State) : Except Fault Word := do
  let a ← ea m s
  checkField f
  let w ← memRead s a
  .ok (field w f)

/-! ## The units' port lists (20 R60, R62; log 16) -/

/-- The output of a field unit: the word and `bad`. -/
structure FieldUnitOut where
  r : Word
  bad : Bool
  deriving DecidableEq, Repr

/-- The output of the address generator: the address and `bad`. -/
structure AddressUnitOut where
  ea : Int
  bad : Bool
  deriving DecidableEq, Repr

/-- FX(w, F) -> (r, bad), bad = not FieldOK(F) (20 R60). -/
def FX (w : Word) (f : FieldSpec) : FieldUnitOut :=
  if fieldOK f then ⟨field w f, false⟩ else ⟨Config.fieldExtractDontCare w f, true⟩

/-- FW(d, F, s) -> (r, bad), bad = not FieldOK(F) (20 R60). -/
def FW (d : Word) (f : FieldSpec) (s : Word) : FieldUnitOut :=
  if fieldOK f then ⟨setField d f s, false⟩ else ⟨Config.fieldWriteDontCare d f s, true⟩

/-- AG(instr, I1..I6) -> (ea, bad), bad = I(instr) > 6 (20 R62). -/
def AG (instr i1 i2 i3 i4 i5 i6 : Word) : AddressUnitOut :=
  if indexOK instr.addrField then
    ⟨addrValue instr.addrField + indexTerm instr.indexField i1 i2 i3 i4 i5 i6, false⟩
  else ⟨Config.addressDontCare instr i1 i2 i3 i4 i5 i6, true⟩

end Sys2Proof.Machine
end

