-- ==== Sys2Proof/Machine/AddrTransfer.lean ====
section
/-! DEFINITION. Opcodes 48..55: INC, DEC, ENT, ENN and the no-op sub-modes (46 R260 to R295). -/

namespace Sys2Proof.Machine

/-- INC(r) (46 R261). -/
def increase (r : Reg) (m : AddrField) (s : State) : Except Fault State := do
  let a ← ea m s
  let w ← zWordOf s.params (val (s.reg r) + a) (s.reg r)
  .ok (advance (s.setReg r w))

/-- DEC(r) (46 R261). -/
def decrease (r : Reg) (m : AddrField) (s : State) : Except Fault State := do
  let a ← ea m s
  let w ← zWordOf s.params (val (s.reg r) - a) (s.reg r)
  .ok (advance (s.setReg r w))

/-- The word ENT and ENN write: the number's, or a zero with the given sign (46 R262). -/
def enterWord (o : ArithOverflow) (v : Int) (zeroSign : Bool) : Except Fault Word :=
  if v = 0 then .ok (Word.zero zeroSign) else wordOf o v

/-- ENT(r): the effective address as a number; a zero takes the instruction word's sign (46 R262). -/
def enter (r : Reg) (m : AddrField) (s : State) : Except Fault State := do
  let a ← ea m s
  let w ← enterWord s.params.arithOverflow a m.neg
  .ok (advance (s.setReg r w))

/-- ENN(r): the negated effective address; a zero takes the flipped sign of the instruction word (46 R262). -/
def enterNegative (r : Reg) (m : AddrField) (s : State) : Except Fault State := do
  let a ← ea m s
  let w ← enterWord s.params.arithOverflow (-a) (!m.neg)
  .ok (advance (s.setReg r w))

/-- INCA: increase A (46 R264). -/
def execInca (m : AddrField) (s : State) : StepOutcome := finish (increase .a m s)

/-- DECA: decrease A (46 R265). -/
def execDeca (m : AddrField) (s : State) : StepOutcome := finish (decrease .a m s)

/-- ENTA: enter A (46 R266). -/
def execEnta (m : AddrField) (s : State) : StepOutcome := finish (enter .a m s)

/-- ENNA: enter negative A (46 R267). -/
def execEnna (m : AddrField) (s : State) : StepOutcome := finish (enterNegative .a m s)

/-- nopOp48: opcode 48 with F at least 4, a no-op word (46 R263). -/
def execNopOp48 (_m : AddrField) (_f : FieldSpec) (s : State) : StepOutcome := finish (.ok (noOp s))

/-- INC1: increase I1 (46 R268). -/
def execInc1 (m : AddrField) (s : State) : StepOutcome := finish (increase .i1 m s)

/-- DEC1: decrease I1 (46 R269). -/
def execDec1 (m : AddrField) (s : State) : StepOutcome := finish (decrease .i1 m s)

/-- ENT1: enter I1 (46 R270). -/
def execEnt1 (m : AddrField) (s : State) : StepOutcome := finish (enter .i1 m s)

/-- ENN1: enter negative I1 (46 R271). -/
def execEnn1 (m : AddrField) (s : State) : StepOutcome := finish (enterNegative .i1 m s)

/-- nopOp49: opcode 49 with F at least 4, a no-op word (46 R263). -/
def execNopOp49 (_m : AddrField) (_f : FieldSpec) (s : State) : StepOutcome := finish (.ok (noOp s))

/-- INC2: increase I2 (46 R272). -/
def execInc2 (m : AddrField) (s : State) : StepOutcome := finish (increase .i2 m s)

/-- DEC2: decrease I2 (46 R273). -/
def execDec2 (m : AddrField) (s : State) : StepOutcome := finish (decrease .i2 m s)

/-- ENT2: enter I2 (46 R274). -/
def execEnt2 (m : AddrField) (s : State) : StepOutcome := finish (enter .i2 m s)

/-- ENN2: enter negative I2 (46 R275). -/
def execEnn2 (m : AddrField) (s : State) : StepOutcome := finish (enterNegative .i2 m s)

/-- nopOp50: opcode 50 with F at least 4, a no-op word (46 R263). -/
def execNopOp50 (_m : AddrField) (_f : FieldSpec) (s : State) : StepOutcome := finish (.ok (noOp s))

/-- INC3: increase I3 (46 R276). -/
def execInc3 (m : AddrField) (s : State) : StepOutcome := finish (increase .i3 m s)

/-- DEC3: decrease I3 (46 R277). -/
def execDec3 (m : AddrField) (s : State) : StepOutcome := finish (decrease .i3 m s)

/-- ENT3: enter I3 (46 R278). -/
def execEnt3 (m : AddrField) (s : State) : StepOutcome := finish (enter .i3 m s)

/-- ENN3: enter negative I3 (46 R279). -/
def execEnn3 (m : AddrField) (s : State) : StepOutcome := finish (enterNegative .i3 m s)

/-- nopOp51: opcode 51 with F at least 4, a no-op word (46 R263). -/
def execNopOp51 (_m : AddrField) (_f : FieldSpec) (s : State) : StepOutcome := finish (.ok (noOp s))

/-- INC4: increase I4 (46 R280). -/
def execInc4 (m : AddrField) (s : State) : StepOutcome := finish (increase .i4 m s)

/-- DEC4: decrease I4 (46 R281). -/
def execDec4 (m : AddrField) (s : State) : StepOutcome := finish (decrease .i4 m s)

/-- ENT4: enter I4 (46 R282). -/
def execEnt4 (m : AddrField) (s : State) : StepOutcome := finish (enter .i4 m s)

/-- ENN4: enter negative I4 (46 R283). -/
def execEnn4 (m : AddrField) (s : State) : StepOutcome := finish (enterNegative .i4 m s)

/-- nopOp52: opcode 52 with F at least 4, a no-op word (46 R263). -/
def execNopOp52 (_m : AddrField) (_f : FieldSpec) (s : State) : StepOutcome := finish (.ok (noOp s))

/-- INC5: increase I5 (46 R284). -/
def execInc5 (m : AddrField) (s : State) : StepOutcome := finish (increase .i5 m s)

/-- DEC5: decrease I5 (46 R285). -/
def execDec5 (m : AddrField) (s : State) : StepOutcome := finish (decrease .i5 m s)

/-- ENT5: enter I5 (46 R286). -/
def execEnt5 (m : AddrField) (s : State) : StepOutcome := finish (enter .i5 m s)

/-- ENN5: enter negative I5 (46 R287). -/
def execEnn5 (m : AddrField) (s : State) : StepOutcome := finish (enterNegative .i5 m s)

/-- nopOp53: opcode 53 with F at least 4, a no-op word (46 R263). -/
def execNopOp53 (_m : AddrField) (_f : FieldSpec) (s : State) : StepOutcome := finish (.ok (noOp s))

/-- INC6: increase I6 (46 R288). -/
def execInc6 (m : AddrField) (s : State) : StepOutcome := finish (increase .i6 m s)

/-- DEC6: decrease I6 (46 R289). -/
def execDec6 (m : AddrField) (s : State) : StepOutcome := finish (decrease .i6 m s)

/-- ENT6: enter I6 (46 R290). -/
def execEnt6 (m : AddrField) (s : State) : StepOutcome := finish (enter .i6 m s)

/-- ENN6: enter negative I6 (46 R291). -/
def execEnn6 (m : AddrField) (s : State) : StepOutcome := finish (enterNegative .i6 m s)

/-- nopOp54: opcode 54 with F at least 4, a no-op word (46 R263). -/
def execNopOp54 (_m : AddrField) (_f : FieldSpec) (s : State) : StepOutcome := finish (.ok (noOp s))

/-- INCX: increase X (46 R292). -/
def execIncx (m : AddrField) (s : State) : StepOutcome := finish (increase .x m s)

/-- DECX: decrease X (46 R293). -/
def execDecx (m : AddrField) (s : State) : StepOutcome := finish (decrease .x m s)

/-- ENTX: enter X (46 R294). -/
def execEntx (m : AddrField) (s : State) : StepOutcome := finish (enter .x m s)

/-- ENNX: enter negative X (46 R295). -/
def execEnnx (m : AddrField) (s : State) : StepOutcome := finish (enterNegative .x m s)

/-- nopOp55: opcode 55 with F at least 4, a no-op word (46 R263). -/
def execNopOp55 (_m : AddrField) (_f : FieldSpec) (s : State) : StepOutcome := finish (.ok (noOp s))


end Sys2Proof.Machine
end

