-- ==== Sys2Proof/Machine/Arithmetic.lean ====
section
/-! DEFINITION. ADD, SUB, MUL, DIV and the word arithmetic unit AU (40 R100 to R105). -/

namespace Sys2Proof.Machine

/-! ## The word arithmetic unit (40 R105)
`AU(op, a, x, m) -> (a', x', fault)`: the two result words, or the kind of the fault. ADD and SUB give X back
unchanged (log 16). -/

/-- A ← A + m (40 R100). -/
def auAdd (p : Params) (a x m : Word) : Except Fault (Word × Word) := do
  let a' ← zWordOf p (val a + val m) a
  .ok (a', x)

/-- A ← A − m (40 R101). -/
def auSub (p : Params) (a x m : Word) : Except Fault (Word × Word) := do
  let a' ← zWordOf p (val a - val m) a
  .ok (a', x)

/-- The AX pair ← A × m: the high and the low 30 bits of the exact product, one sign, + for a zero product
(40 R102). -/
def auMul (_p : Params) (a _x m : Word) : Except Fault (Word × Word) :=
  let prod := val a * val m
  let s := decide (prod < 0)
  .ok (wordOfMag s (prod.natAbs / 2 ^ 30), wordOfMag s (prod.natAbs % 2 ^ 30))

/-- The signed 60-bit dividend of DIV; the sign is A's or X's (40 R103, parameter DIVIDEND_SIGN, log 10). -/
def dividend (p : Params) (a x : Word) : Int :=
  let neg := match p.dividendSign with
    | .signOfA => a.sign
    | .signOfX => x.sign
  let d : Int := (mag a : Int) * 2 ^ 30 + mag x
  if neg then -d else d

/-- A ← quotient truncated toward zero, X ← remainder (40 R103). -/
def auDiv (p : Params) (a x m : Word) : Except Fault (Word × Word) :=
  let v := val m
  if v = 0 then .error .divideByZero
  else
    let d := dividend p a x
    let q := Int.tdiv d v
    let r := d - v * q
    if 2 ^ 30 ≤ q.natAbs then .error .quotientOverflow
    else do
      let a' ← zWordOf p q a
      let x' ← zWordOf p r x
      .ok (a', x')

/-- The operations of the unit. -/
inductive AuOp where
  | add | sub | mul | div
  deriving DecidableEq, Repr

/-- The unit's port list (40 R105), with the open parameters beside the ports. Where the fault output is a kind, the
answer holds no words: what a' and x' are then is not in the port list (DESIGN CHOICE, log 16), and no instruction reads
them. -/
def AU (op : AuOp) (p : Params) (a x m : Word) : Except Fault (Word × Word) :=
  match op with
  | .add => auAdd p a x m
  | .sub => auSub p a x m
  | .mul => auMul p a x m
  | .div => auDiv p a x m

/-! ## The instructions -/

/-- What the four share: fetch the operand, run the unit, write A and X, advance (40 R104). -/
def arith (unit : Params → Word → Word → Word → Except Fault (Word × Word)) (m : AddrField) (f : FieldSpec)
    (s : State) : Except Fault State := do
  let v ← operand m f s
  let ax ← unit s.params s.a s.x v
  .ok (advance ((s.setReg .a ax.1).setReg .x ax.2))

/-- ADD: add the operand field to A (40 R100). -/
def execAdd (m : AddrField) (f : FieldSpec) (s : State) : StepOutcome := finish (arith auAdd m f s)

/-- SUB: subtract the operand field from A (40 R101). -/
def execSub (m : AddrField) (f : FieldSpec) (s : State) : StepOutcome := finish (arith auSub m f s)

/-- MUL: multiply A by the operand field into AX (40 R102). -/
def execMul (m : AddrField) (f : FieldSpec) (s : State) : StepOutcome := finish (arith auMul m f s)

/-- DIV: divide AX by the operand field (40 R103). -/
def execDiv (m : AddrField) (f : FieldSpec) (s : State) : StepOutcome := finish (arith auDiv m f s)


end Sys2Proof.Machine
end

