-- ==== Sys2Proof/Machine/Flags.lean ====
section
/-! DEFINITION. The comparison indicator (10 R29, 47 R300), the ways a jump ends, and the jump decoder unit JD
(44 R170, 45 R200). -/

namespace Sys2Proof.Machine

/-- CI by numeric comparison of two values (10 R27, 47 R300). -/
def compareCI (l m : Int) : CI := if l < m then .less else if l = m then .equal else .greater

/-- A jump that saves J when taken (44 R171, R173; 45 R201): the address is computed whether or not it is taken. -/
def linkingJump (taken : Bool) (m : AddrField) (s : State) : Except Fault State := do
  let a ← ea m s
  if taken then do
    let j ← wordOf s.params.arithOverflow (nextPc s)
    .ok ((s.setReg .j j).setPc a)
  else .ok (advance s)

/-- JSJ: jump, J unchanged (44 R172). -/
def plainJump (m : AddrField) (s : State) : Except Fault State := do
  let a ← ea m s
  .ok (s.setPc a)

/-! ## The jump decoder unit (44 R170, 45 R200; log 16) -/

/-- The unit's 3-way input: the sign and zero-ness of a register's value. -/
inductive SignZero where
  | neg | zero | pos
  deriving DecidableEq, Repr

/-- The unit's `kind` output. -/
inductive JumpKind where
  | jump | nop
  deriving DecidableEq, Repr

/-- The verdict (kind, taken, link). -/
structure JumpVerdict where
  kind : JumpKind
  taken : Bool
  link : Bool
  deriving DecidableEq, Repr

/-- The 3-way input for a value. -/
def signZero (v : Int) : SignZero := if v < 0 then .neg else if v = 0 then .zero else .pos

/-- A no-op word's verdict: never taken. The tables give no link there; the model says no link (DESIGN CHOICE,
log 16). -/
def JumpVerdict.noOp : JumpVerdict := ⟨.nop, false, false⟩

/-- JD39(F, CI), the table of 44 R170. -/
def jd39 (f : FieldSpec) (ci : CI) : JumpVerdict :=
  match f.toNat with
  | 0 => ⟨.jump, true, true⟩
  | 1 => ⟨.jump, true, false⟩
  | 4 => ⟨.jump, decide (ci = .less), true⟩
  | 5 => ⟨.jump, decide (ci = .equal), true⟩
  | 6 => ⟨.jump, decide (ci = .greater), true⟩
  | 7 => ⟨.jump, decide (ci = .equal ∨ ci = .greater), true⟩
  | 8 => ⟨.jump, decide (ci = .less ∨ ci = .greater), true⟩
  | 9 => ⟨.jump, decide (ci = .less ∨ ci = .equal), true⟩
  | _ => .noOp

/-- The register-predicate half, the table of 45 R200. -/
def jdReg (f : FieldSpec) (v : SignZero) : JumpVerdict :=
  match f.toNat with
  | 0 => ⟨.jump, decide (v = .neg), true⟩
  | 1 => ⟨.jump, decide (v = .zero), true⟩
  | 2 => ⟨.jump, decide (v = .pos), true⟩
  | 3 => ⟨.jump, decide (v = .zero ∨ v = .pos), true⟩
  | 4 => ⟨.jump, decide (v = .neg ∨ v = .pos), true⟩
  | 5 => ⟨.jump, decide (v = .neg ∨ v = .zero), true⟩
  | _ => .noOp

/-- JD(C, F, CI, v_sign_zero) for the opcodes it decodes, 39 and 40..47; none for every other opcode, which the
sequencer never gives it. C and F are numbers of the default OPCODE_MAP (DESIGN CHOICE, log 16): the port list of
44 R170 has no map input and does not say, so under another map the unit stands behind the renumbering of
`OpcodeMap.standard` and is not given the word's own numbers. -/
def JD (c : Byte) (f : FieldSpec) (ci : CI) (v : SignZero) : Option JumpVerdict :=
  if c.toNat = 39 then some (jd39 f ci)
  else if 40 ≤ c.toNat ∧ c.toNat ≤ 47 then some (jdReg f v)
  else none

end Sys2Proof.Machine
end

