-- ==== Sys2Proof/Machine/Compare.lean ====
section
/-! DEFINITION. The compare family (47 R300 to R308). -/

namespace Sys2Proof.Machine

/-- CMP(r): the same field of the register and of the memory word, compared as signed values, sets CI (47 R300). -/
def compare (w : Word) (m : AddrField) (f : FieldSpec) (s : State) : Except Fault State := do
  let v ← operand m f s
  .ok (advance (s.setCI (compareCI (val (field w f)) (val v))))

/-- CMPA: compare A (47 R301). -/
def execCmpa (m : AddrField) (f : FieldSpec) (s : State) : StepOutcome := finish (compare s.a m f s)

/-- CMP1: compare I1 (47 R302). -/
def execCmp1 (m : AddrField) (f : FieldSpec) (s : State) : StepOutcome := finish (compare s.i1 m f s)

/-- CMP2: compare I2 (47 R303). -/
def execCmp2 (m : AddrField) (f : FieldSpec) (s : State) : StepOutcome := finish (compare s.i2 m f s)

/-- CMP3: compare I3 (47 R304). -/
def execCmp3 (m : AddrField) (f : FieldSpec) (s : State) : StepOutcome := finish (compare s.i3 m f s)

/-- CMP4: compare I4 (47 R305). -/
def execCmp4 (m : AddrField) (f : FieldSpec) (s : State) : StepOutcome := finish (compare s.i4 m f s)

/-- CMP5: compare I5 (47 R306). -/
def execCmp5 (m : AddrField) (f : FieldSpec) (s : State) : StepOutcome := finish (compare s.i5 m f s)

/-- CMP6: compare I6 (47 R307). -/
def execCmp6 (m : AddrField) (f : FieldSpec) (s : State) : StepOutcome := finish (compare s.i6 m f s)

/-- CMPX: compare X (47 R308). -/
def execCmpx (m : AddrField) (f : FieldSpec) (s : State) : StepOutcome := finish (compare s.x m f s)


end Sys2Proof.Machine
end

