-- ==== Sys2Proof/Machine/Jump.lean ====
section
/-! DEFINITION. Opcode 39: the jumps and the no-op sub-modes (44 R171 to R179). -/

namespace Sys2Proof.Machine

/-- JMP: jump, saving J (44 R171). -/
def execJmp (m : AddrField) (s : State) : StepOutcome := finish (linkingJump true m s)

/-- JSJ: jump, J unchanged (44 R172). -/
def execJsj (m : AddrField) (s : State) : StepOutcome := finish (plainJump m s)

/-- JL: jump if CI is LESS (44 R173). -/
def execJl (m : AddrField) (s : State) : StepOutcome := finish (linkingJump (s.ci == .less) m s)

/-- JE: jump if CI is EQUAL (44 R174). -/
def execJe (m : AddrField) (s : State) : StepOutcome := finish (linkingJump (s.ci == .equal) m s)

/-- JG: jump if CI is GREATER (44 R175). -/
def execJg (m : AddrField) (s : State) : StepOutcome := finish (linkingJump (s.ci == .greater) m s)

/-- JGE: jump if CI is not LESS (44 R176). -/
def execJge (m : AddrField) (s : State) : StepOutcome := finish (linkingJump (s.ci != .less) m s)

/-- JNE: jump if CI is not EQUAL (44 R177). -/
def execJne (m : AddrField) (s : State) : StepOutcome := finish (linkingJump (s.ci != .equal) m s)

/-- JLE: jump if CI is not GREATER (44 R178). -/
def execJle (m : AddrField) (s : State) : StepOutcome := finish (linkingJump (s.ci != .greater) m s)

/-- nopOp39: opcode 39 with F in 2, 3, 10..63, a no-op word (44 R179). -/
def execNopOp39 (_m : AddrField) (_f : FieldSpec) (s : State) : StepOutcome := finish (.ok (noOp s))


end Sys2Proof.Machine
end

