-- ==== Sys2Proof/Machine/JumpReg.lean ====
section
/-! DEFINITION. Opcodes 40..47: the jumps on a register and the no-op sub-modes (45 R201 to R250). -/

namespace Sys2Proof.Machine

/-- JAN: jump if A is negative (45 R202). -/
def execJan (m : AddrField) (s : State) : StepOutcome := finish (linkingJump (decide (val s.a < 0)) m s)

/-- JAZ: jump if A is zero (45 R203). -/
def execJaz (m : AddrField) (s : State) : StepOutcome := finish (linkingJump (decide (val s.a = 0)) m s)

/-- JAP: jump if A is positive (45 R204). -/
def execJap (m : AddrField) (s : State) : StepOutcome := finish (linkingJump (decide (val s.a > 0)) m s)

/-- JANN: jump if A is non-negative (45 R205). -/
def execJann (m : AddrField) (s : State) : StepOutcome := finish (linkingJump (decide (val s.a ≥ 0)) m s)

/-- JANZ: jump if A is non-zero (45 R206). -/
def execJanz (m : AddrField) (s : State) : StepOutcome := finish (linkingJump (decide (val s.a ≠ 0)) m s)

/-- JANP: jump if A is non-positive (45 R207). -/
def execJanp (m : AddrField) (s : State) : StepOutcome := finish (linkingJump (decide (val s.a ≤ 0)) m s)

/-- nopOp40: opcode 40 with F at least 6, a no-op word (45 R250). -/
def execNopOp40 (_m : AddrField) (_f : FieldSpec) (s : State) : StepOutcome := finish (.ok (noOp s))

/-- J1N: jump if I1 is negative (45 R208). -/
def execJ1n (m : AddrField) (s : State) : StepOutcome := finish (linkingJump (decide (val s.i1 < 0)) m s)

/-- J1Z: jump if I1 is zero (45 R209). -/
def execJ1z (m : AddrField) (s : State) : StepOutcome := finish (linkingJump (decide (val s.i1 = 0)) m s)

/-- J1P: jump if I1 is positive (45 R210). -/
def execJ1p (m : AddrField) (s : State) : StepOutcome := finish (linkingJump (decide (val s.i1 > 0)) m s)

/-- J1NN: jump if I1 is non-negative (45 R211). -/
def execJ1nn (m : AddrField) (s : State) : StepOutcome := finish (linkingJump (decide (val s.i1 ≥ 0)) m s)

/-- J1NZ: jump if I1 is non-zero (45 R212). -/
def execJ1nz (m : AddrField) (s : State) : StepOutcome := finish (linkingJump (decide (val s.i1 ≠ 0)) m s)

/-- J1NP: jump if I1 is non-positive (45 R213). -/
def execJ1np (m : AddrField) (s : State) : StepOutcome := finish (linkingJump (decide (val s.i1 ≤ 0)) m s)

/-- nopOp41: opcode 41 with F at least 6, a no-op word (45 R250). -/
def execNopOp41 (_m : AddrField) (_f : FieldSpec) (s : State) : StepOutcome := finish (.ok (noOp s))

/-- J2N: jump if I2 is negative (45 R214). -/
def execJ2n (m : AddrField) (s : State) : StepOutcome := finish (linkingJump (decide (val s.i2 < 0)) m s)

/-- J2Z: jump if I2 is zero (45 R215). -/
def execJ2z (m : AddrField) (s : State) : StepOutcome := finish (linkingJump (decide (val s.i2 = 0)) m s)

/-- J2P: jump if I2 is positive (45 R216). -/
def execJ2p (m : AddrField) (s : State) : StepOutcome := finish (linkingJump (decide (val s.i2 > 0)) m s)

/-- J2NN: jump if I2 is non-negative (45 R217). -/
def execJ2nn (m : AddrField) (s : State) : StepOutcome := finish (linkingJump (decide (val s.i2 ≥ 0)) m s)

/-- J2NZ: jump if I2 is non-zero (45 R218). -/
def execJ2nz (m : AddrField) (s : State) : StepOutcome := finish (linkingJump (decide (val s.i2 ≠ 0)) m s)

/-- J2NP: jump if I2 is non-positive (45 R219). -/
def execJ2np (m : AddrField) (s : State) : StepOutcome := finish (linkingJump (decide (val s.i2 ≤ 0)) m s)

/-- nopOp42: opcode 42 with F at least 6, a no-op word (45 R250). -/
def execNopOp42 (_m : AddrField) (_f : FieldSpec) (s : State) : StepOutcome := finish (.ok (noOp s))

/-- J3N: jump if I3 is negative (45 R220). -/
def execJ3n (m : AddrField) (s : State) : StepOutcome := finish (linkingJump (decide (val s.i3 < 0)) m s)

/-- J3Z: jump if I3 is zero (45 R221). -/
def execJ3z (m : AddrField) (s : State) : StepOutcome := finish (linkingJump (decide (val s.i3 = 0)) m s)

/-- J3P: jump if I3 is positive (45 R222). -/
def execJ3p (m : AddrField) (s : State) : StepOutcome := finish (linkingJump (decide (val s.i3 > 0)) m s)

/-- J3NN: jump if I3 is non-negative (45 R223). -/
def execJ3nn (m : AddrField) (s : State) : StepOutcome := finish (linkingJump (decide (val s.i3 ≥ 0)) m s)

/-- J3NZ: jump if I3 is non-zero (45 R224). -/
def execJ3nz (m : AddrField) (s : State) : StepOutcome := finish (linkingJump (decide (val s.i3 ≠ 0)) m s)

/-- J3NP: jump if I3 is non-positive (45 R225). -/
def execJ3np (m : AddrField) (s : State) : StepOutcome := finish (linkingJump (decide (val s.i3 ≤ 0)) m s)

/-- nopOp43: opcode 43 with F at least 6, a no-op word (45 R250). -/
def execNopOp43 (_m : AddrField) (_f : FieldSpec) (s : State) : StepOutcome := finish (.ok (noOp s))

/-- J4N: jump if I4 is negative (45 R226). -/
def execJ4n (m : AddrField) (s : State) : StepOutcome := finish (linkingJump (decide (val s.i4 < 0)) m s)

/-- J4Z: jump if I4 is zero (45 R227). -/
def execJ4z (m : AddrField) (s : State) : StepOutcome := finish (linkingJump (decide (val s.i4 = 0)) m s)

/-- J4P: jump if I4 is positive (45 R228). -/
def execJ4p (m : AddrField) (s : State) : StepOutcome := finish (linkingJump (decide (val s.i4 > 0)) m s)

/-- J4NN: jump if I4 is non-negative (45 R229). -/
def execJ4nn (m : AddrField) (s : State) : StepOutcome := finish (linkingJump (decide (val s.i4 ≥ 0)) m s)

/-- J4NZ: jump if I4 is non-zero (45 R230). -/
def execJ4nz (m : AddrField) (s : State) : StepOutcome := finish (linkingJump (decide (val s.i4 ≠ 0)) m s)

/-- J4NP: jump if I4 is non-positive (45 R231). -/
def execJ4np (m : AddrField) (s : State) : StepOutcome := finish (linkingJump (decide (val s.i4 ≤ 0)) m s)

/-- nopOp44: opcode 44 with F at least 6, a no-op word (45 R250). -/
def execNopOp44 (_m : AddrField) (_f : FieldSpec) (s : State) : StepOutcome := finish (.ok (noOp s))

/-- J5N: jump if I5 is negative (45 R232). -/
def execJ5n (m : AddrField) (s : State) : StepOutcome := finish (linkingJump (decide (val s.i5 < 0)) m s)

/-- J5Z: jump if I5 is zero (45 R233). -/
def execJ5z (m : AddrField) (s : State) : StepOutcome := finish (linkingJump (decide (val s.i5 = 0)) m s)

/-- J5P: jump if I5 is positive (45 R234). -/
def execJ5p (m : AddrField) (s : State) : StepOutcome := finish (linkingJump (decide (val s.i5 > 0)) m s)

/-- J5NN: jump if I5 is non-negative (45 R235). -/
def execJ5nn (m : AddrField) (s : State) : StepOutcome := finish (linkingJump (decide (val s.i5 ≥ 0)) m s)

/-- J5NZ: jump if I5 is non-zero (45 R236). -/
def execJ5nz (m : AddrField) (s : State) : StepOutcome := finish (linkingJump (decide (val s.i5 ≠ 0)) m s)

/-- J5NP: jump if I5 is non-positive (45 R237). -/
def execJ5np (m : AddrField) (s : State) : StepOutcome := finish (linkingJump (decide (val s.i5 ≤ 0)) m s)

/-- nopOp45: opcode 45 with F at least 6, a no-op word (45 R250). -/
def execNopOp45 (_m : AddrField) (_f : FieldSpec) (s : State) : StepOutcome := finish (.ok (noOp s))

/-- J6N: jump if I6 is negative (45 R238). -/
def execJ6n (m : AddrField) (s : State) : StepOutcome := finish (linkingJump (decide (val s.i6 < 0)) m s)

/-- J6Z: jump if I6 is zero (45 R239). -/
def execJ6z (m : AddrField) (s : State) : StepOutcome := finish (linkingJump (decide (val s.i6 = 0)) m s)

/-- J6P: jump if I6 is positive (45 R240). -/
def execJ6p (m : AddrField) (s : State) : StepOutcome := finish (linkingJump (decide (val s.i6 > 0)) m s)

/-- J6NN: jump if I6 is non-negative (45 R241). -/
def execJ6nn (m : AddrField) (s : State) : StepOutcome := finish (linkingJump (decide (val s.i6 ≥ 0)) m s)

/-- J6NZ: jump if I6 is non-zero (45 R242). -/
def execJ6nz (m : AddrField) (s : State) : StepOutcome := finish (linkingJump (decide (val s.i6 ≠ 0)) m s)

/-- J6NP: jump if I6 is non-positive (45 R243). -/
def execJ6np (m : AddrField) (s : State) : StepOutcome := finish (linkingJump (decide (val s.i6 ≤ 0)) m s)

/-- nopOp46: opcode 46 with F at least 6, a no-op word (45 R250). -/
def execNopOp46 (_m : AddrField) (_f : FieldSpec) (s : State) : StepOutcome := finish (.ok (noOp s))

/-- JXN: jump if X is negative (45 R244). -/
def execJxn (m : AddrField) (s : State) : StepOutcome := finish (linkingJump (decide (val s.x < 0)) m s)

/-- JXZ: jump if X is zero (45 R245). -/
def execJxz (m : AddrField) (s : State) : StepOutcome := finish (linkingJump (decide (val s.x = 0)) m s)

/-- JXP: jump if X is positive (45 R246). -/
def execJxp (m : AddrField) (s : State) : StepOutcome := finish (linkingJump (decide (val s.x > 0)) m s)

/-- JXNN: jump if X is non-negative (45 R247). -/
def execJxnn (m : AddrField) (s : State) : StepOutcome := finish (linkingJump (decide (val s.x ≥ 0)) m s)

/-- JXNZ: jump if X is non-zero (45 R248). -/
def execJxnz (m : AddrField) (s : State) : StepOutcome := finish (linkingJump (decide (val s.x ≠ 0)) m s)

/-- JXNP: jump if X is non-positive (45 R249). -/
def execJxnp (m : AddrField) (s : State) : StepOutcome := finish (linkingJump (decide (val s.x ≤ 0)) m s)

/-- nopOp47: opcode 47 with F at least 6, a no-op word (45 R250). -/
def execNopOp47 (_m : AddrField) (_f : FieldSpec) (s : State) : StepOutcome := finish (.ok (noOp s))


end Sys2Proof.Machine
end

