-- ==== Sys2Proof/Machine/Load.lean ====
section
/-! DEFINITION. The load family (42 R130 to R138). -/

namespace Sys2Proof.Machine

/-- LOAD(r): the register receives the extracted word whole, sign included (42 R130). -/
def load (r : Reg) (m : AddrField) (f : FieldSpec) (s : State) : Except Fault State := do
  let v ← operand m f s
  .ok (advance (s.setReg r v))

/-- LDA: load A (42 R131). -/
def execLda (m : AddrField) (f : FieldSpec) (s : State) : StepOutcome := finish (load .a m f s)

/-- LD1: load I1 (42 R132). -/
def execLd1 (m : AddrField) (f : FieldSpec) (s : State) : StepOutcome := finish (load .i1 m f s)

/-- LD2: load I2 (42 R133). -/
def execLd2 (m : AddrField) (f : FieldSpec) (s : State) : StepOutcome := finish (load .i2 m f s)

/-- LD3: load I3 (42 R134). -/
def execLd3 (m : AddrField) (f : FieldSpec) (s : State) : StepOutcome := finish (load .i3 m f s)

/-- LD4: load I4 (42 R135). -/
def execLd4 (m : AddrField) (f : FieldSpec) (s : State) : StepOutcome := finish (load .i4 m f s)

/-- LD5: load I5 (42 R136). -/
def execLd5 (m : AddrField) (f : FieldSpec) (s : State) : StepOutcome := finish (load .i5 m f s)

/-- LD6: load I6 (42 R137). -/
def execLd6 (m : AddrField) (f : FieldSpec) (s : State) : StepOutcome := finish (load .i6 m f s)

/-- LDX: load X (42 R138). -/
def execLdx (m : AddrField) (f : FieldSpec) (s : State) : StepOutcome := finish (load .x m f s)


end Sys2Proof.Machine
end

