-- ==== Sys2Proof/Machine/Special.lean ====
section
/-! DEFINITION. Opcode 5: HLT and the no-op sub-modes (41 R120, R121). -/

namespace Sys2Proof.Machine

/-- HLT: halt; address and index are kept but never read (41 R120). -/
def execHlt (_m : AddrField) (s : State) : StepOutcome := finish (.ok (halt s))

/-- nopOp5: opcode 5 with F other than 2, a no-op word (41 R121). -/
def execNopOp5 (_m : AddrField) (_f : FieldSpec) (s : State) : StepOutcome := finish (.ok (noOp s))


end Sys2Proof.Machine
end

