-- ==== Sys2Proof/Machine/Store.lean ====
section
/-! DEFINITION. The store family (43 R150 to R160). -/

namespace Sys2Proof.Machine

/-- STORE(src): merge the source into the field of the destination word, in the check order of 43 R150. -/
def store (src : Word) (m : AddrField) (f : FieldSpec) (s : State) : Except Fault State := do
  let a ← ea m s
  checkField f
  let d ← memRead s a
  let s' ← memWrite s a (setField d f src)
  .ok (advance s')

/-- STA: store A (43 R151). -/
def execSta (m : AddrField) (f : FieldSpec) (s : State) : StepOutcome := finish (store s.a m f s)

/-- ST1: store I1 (43 R152). -/
def execSt1 (m : AddrField) (f : FieldSpec) (s : State) : StepOutcome := finish (store s.i1 m f s)

/-- ST2: store I2 (43 R153). -/
def execSt2 (m : AddrField) (f : FieldSpec) (s : State) : StepOutcome := finish (store s.i2 m f s)

/-- ST3: store I3 (43 R154). -/
def execSt3 (m : AddrField) (f : FieldSpec) (s : State) : StepOutcome := finish (store s.i3 m f s)

/-- ST4: store I4 (43 R155). -/
def execSt4 (m : AddrField) (f : FieldSpec) (s : State) : StepOutcome := finish (store s.i4 m f s)

/-- ST5: store I5 (43 R156). -/
def execSt5 (m : AddrField) (f : FieldSpec) (s : State) : StepOutcome := finish (store s.i5 m f s)

/-- ST6: store I6 (43 R157). -/
def execSt6 (m : AddrField) (f : FieldSpec) (s : State) : StepOutcome := finish (store s.i6 m f s)

/-- STX: store X (43 R158). -/
def execStx (m : AddrField) (f : FieldSpec) (s : State) : StepOutcome := finish (store s.x m f s)

/-- STJ: store J (43 R159). -/
def execStj (m : AddrField) (f : FieldSpec) (s : State) : StepOutcome := finish (store s.j m f s)

/-- STZ: store +0 (43 R160). -/
def execStz (m : AddrField) (f : FieldSpec) (s : State) : StepOutcome := finish (store Word.plusZero m f s)


end Sys2Proof.Machine
end

