-- ==== Sys2Proof/Machine/Unknown.lean ====
section
/-! DEFINITION. The 16 unknown opcodes, no-op words (48 R320). -/

namespace Sys2Proof.Machine

/-- unkOp0: unknown opcode 0, a no-op word (48 R320). -/
def execUnkOp0 (_m : AddrField) (_f : FieldSpec) (s : State) : StepOutcome := finish (.ok (noOp s))

/-- unkOp6: unknown opcode 6, a no-op word (48 R320). -/
def execUnkOp6 (_m : AddrField) (_f : FieldSpec) (s : State) : StepOutcome := finish (.ok (noOp s))

/-- unkOp7: unknown opcode 7, a no-op word (48 R320). -/
def execUnkOp7 (_m : AddrField) (_f : FieldSpec) (s : State) : StepOutcome := finish (.ok (noOp s))

/-- unkOp16: unknown opcode 16, a no-op word (48 R320). -/
def execUnkOp16 (_m : AddrField) (_f : FieldSpec) (s : State) : StepOutcome := finish (.ok (noOp s))

/-- unkOp17: unknown opcode 17, a no-op word (48 R320). -/
def execUnkOp17 (_m : AddrField) (_f : FieldSpec) (s : State) : StepOutcome := finish (.ok (noOp s))

/-- unkOp18: unknown opcode 18, a no-op word (48 R320). -/
def execUnkOp18 (_m : AddrField) (_f : FieldSpec) (s : State) : StepOutcome := finish (.ok (noOp s))

/-- unkOp19: unknown opcode 19, a no-op word (48 R320). -/
def execUnkOp19 (_m : AddrField) (_f : FieldSpec) (s : State) : StepOutcome := finish (.ok (noOp s))

/-- unkOp20: unknown opcode 20, a no-op word (48 R320). -/
def execUnkOp20 (_m : AddrField) (_f : FieldSpec) (s : State) : StepOutcome := finish (.ok (noOp s))

/-- unkOp21: unknown opcode 21, a no-op word (48 R320). -/
def execUnkOp21 (_m : AddrField) (_f : FieldSpec) (s : State) : StepOutcome := finish (.ok (noOp s))

/-- unkOp22: unknown opcode 22, a no-op word (48 R320). -/
def execUnkOp22 (_m : AddrField) (_f : FieldSpec) (s : State) : StepOutcome := finish (.ok (noOp s))

/-- unkOp23: unknown opcode 23, a no-op word (48 R320). -/
def execUnkOp23 (_m : AddrField) (_f : FieldSpec) (s : State) : StepOutcome := finish (.ok (noOp s))

/-- unkOp34: unknown opcode 34, a no-op word (48 R320). -/
def execUnkOp34 (_m : AddrField) (_f : FieldSpec) (s : State) : StepOutcome := finish (.ok (noOp s))

/-- unkOp35: unknown opcode 35, a no-op word (48 R320). -/
def execUnkOp35 (_m : AddrField) (_f : FieldSpec) (s : State) : StepOutcome := finish (.ok (noOp s))

/-- unkOp36: unknown opcode 36, a no-op word (48 R320). -/
def execUnkOp36 (_m : AddrField) (_f : FieldSpec) (s : State) : StepOutcome := finish (.ok (noOp s))

/-- unkOp37: unknown opcode 37, a no-op word (48 R320). -/
def execUnkOp37 (_m : AddrField) (_f : FieldSpec) (s : State) : StepOutcome := finish (.ok (noOp s))

/-- unkOp38: unknown opcode 38, a no-op word (48 R320). -/
def execUnkOp38 (_m : AddrField) (_f : FieldSpec) (s : State) : StepOutcome := finish (.ok (noOp s))


end Sys2Proof.Machine
end

