-- ==== Sys2Proof/Machine/Dispatch.lean ====
section
/-! DEFINITION. One arm per instruction: the loop's dispatch (70 R376). -/

namespace Sys2Proof.Machine

def exec (i : Instr) (s : State) : Host.Outcome State Fault Refusal :=
  match i with
  | .add m f => Sys2Proof.Machine.execAdd m f s
  | .sub m f => Sys2Proof.Machine.execSub m f s
  | .mul m f => Sys2Proof.Machine.execMul m f s
  | .div m f => Sys2Proof.Machine.execDiv m f s
  | .hlt m => Sys2Proof.Machine.execHlt m s
  | .nopOp5 m f => Sys2Proof.Machine.execNopOp5 m f s
  | .lda m f => Sys2Proof.Machine.execLda m f s
  | .ld1 m f => Sys2Proof.Machine.execLd1 m f s
  | .ld2 m f => Sys2Proof.Machine.execLd2 m f s
  | .ld3 m f => Sys2Proof.Machine.execLd3 m f s
  | .ld4 m f => Sys2Proof.Machine.execLd4 m f s
  | .ld5 m f => Sys2Proof.Machine.execLd5 m f s
  | .ld6 m f => Sys2Proof.Machine.execLd6 m f s
  | .ldx m f => Sys2Proof.Machine.execLdx m f s
  | .sta m f => Sys2Proof.Machine.execSta m f s
  | .st1 m f => Sys2Proof.Machine.execSt1 m f s
  | .st2 m f => Sys2Proof.Machine.execSt2 m f s
  | .st3 m f => Sys2Proof.Machine.execSt3 m f s
  | .st4 m f => Sys2Proof.Machine.execSt4 m f s
  | .st5 m f => Sys2Proof.Machine.execSt5 m f s
  | .st6 m f => Sys2Proof.Machine.execSt6 m f s
  | .stx m f => Sys2Proof.Machine.execStx m f s
  | .stj m f => Sys2Proof.Machine.execStj m f s
  | .stz m f => Sys2Proof.Machine.execStz m f s
  | .jmp m => Sys2Proof.Machine.execJmp m s
  | .jsj m => Sys2Proof.Machine.execJsj m s
  | .jl m => Sys2Proof.Machine.execJl m s
  | .je m => Sys2Proof.Machine.execJe m s
  | .jg m => Sys2Proof.Machine.execJg m s
  | .jge m => Sys2Proof.Machine.execJge m s
  | .jne m => Sys2Proof.Machine.execJne m s
  | .jle m => Sys2Proof.Machine.execJle m s
  | .nopOp39 m f => Sys2Proof.Machine.execNopOp39 m f s
  | .jan m => Sys2Proof.Machine.execJan m s
  | .jaz m => Sys2Proof.Machine.execJaz m s
  | .jap m => Sys2Proof.Machine.execJap m s
  | .jann m => Sys2Proof.Machine.execJann m s
  | .janz m => Sys2Proof.Machine.execJanz m s
  | .janp m => Sys2Proof.Machine.execJanp m s
  | .nopOp40 m f => Sys2Proof.Machine.execNopOp40 m f s
  | .j1n m => Sys2Proof.Machine.execJ1n m s
  | .j1z m => Sys2Proof.Machine.execJ1z m s
  | .j1p m => Sys2Proof.Machine.execJ1p m s
  | .j1nn m => Sys2Proof.Machine.execJ1nn m s
  | .j1nz m => Sys2Proof.Machine.execJ1nz m s
  | .j1np m => Sys2Proof.Machine.execJ1np m s
  | .nopOp41 m f => Sys2Proof.Machine.execNopOp41 m f s
  | .j2n m => Sys2Proof.Machine.execJ2n m s
  | .j2z m => Sys2Proof.Machine.execJ2z m s
  | .j2p m => Sys2Proof.Machine.execJ2p m s
  | .j2nn m => Sys2Proof.Machine.execJ2nn m s
  | .j2nz m => Sys2Proof.Machine.execJ2nz m s
  | .j2np m => Sys2Proof.Machine.execJ2np m s
  | .nopOp42 m f => Sys2Proof.Machine.execNopOp42 m f s
  | .j3n m => Sys2Proof.Machine.execJ3n m s
  | .j3z m => Sys2Proof.Machine.execJ3z m s
  | .j3p m => Sys2Proof.Machine.execJ3p m s
  | .j3nn m => Sys2Proof.Machine.execJ3nn m s
  | .j3nz m => Sys2Proof.Machine.execJ3nz m s
  | .j3np m => Sys2Proof.Machine.execJ3np m s
  | .nopOp43 m f => Sys2Proof.Machine.execNopOp43 m f s
  | .j4n m => Sys2Proof.Machine.execJ4n m s
  | .j4z m => Sys2Proof.Machine.execJ4z m s
  | .j4p m => Sys2Proof.Machine.execJ4p m s
  | .j4nn m => Sys2Proof.Machine.execJ4nn m s
  | .j4nz m => Sys2Proof.Machine.execJ4nz m s
  | .j4np m => Sys2Proof.Machine.execJ4np m s
  | .nopOp44 m f => Sys2Proof.Machine.execNopOp44 m f s
  | .j5n m => Sys2Proof.Machine.execJ5n m s
  | .j5z m => Sys2Proof.Machine.execJ5z m s
  | .j5p m => Sys2Proof.Machine.execJ5p m s
  | .j5nn m => Sys2Proof.Machine.execJ5nn m s
  | .j5nz m => Sys2Proof.Machine.execJ5nz m s
  | .j5np m => Sys2Proof.Machine.execJ5np m s
  | .nopOp45 m f => Sys2Proof.Machine.execNopOp45 m f s
  | .j6n m => Sys2Proof.Machine.execJ6n m s
  | .j6z m => Sys2Proof.Machine.execJ6z m s
  | .j6p m => Sys2Proof.Machine.execJ6p m s
  | .j6nn m => Sys2Proof.Machine.execJ6nn m s
  | .j6nz m => Sys2Proof.Machine.execJ6nz m s
  | .j6np m => Sys2Proof.Machine.execJ6np m s
  | .nopOp46 m f => Sys2Proof.Machine.execNopOp46 m f s
  | .jxn m => Sys2Proof.Machine.execJxn m s
  | .jxz m => Sys2Proof.Machine.execJxz m s
  | .jxp m => Sys2Proof.Machine.execJxp m s
  | .jxnn m => Sys2Proof.Machine.execJxnn m s
  | .jxnz m => Sys2Proof.Machine.execJxnz m s
  | .jxnp m => Sys2Proof.Machine.execJxnp m s
  | .nopOp47 m f => Sys2Proof.Machine.execNopOp47 m f s
  | .inca m => Sys2Proof.Machine.execInca m s
  | .deca m => Sys2Proof.Machine.execDeca m s
  | .enta m => Sys2Proof.Machine.execEnta m s
  | .enna m => Sys2Proof.Machine.execEnna m s
  | .nopOp48 m f => Sys2Proof.Machine.execNopOp48 m f s
  | .inc1 m => Sys2Proof.Machine.execInc1 m s
  | .dec1 m => Sys2Proof.Machine.execDec1 m s
  | .ent1 m => Sys2Proof.Machine.execEnt1 m s
  | .enn1 m => Sys2Proof.Machine.execEnn1 m s
  | .nopOp49 m f => Sys2Proof.Machine.execNopOp49 m f s
  | .inc2 m => Sys2Proof.Machine.execInc2 m s
  | .dec2 m => Sys2Proof.Machine.execDec2 m s
  | .ent2 m => Sys2Proof.Machine.execEnt2 m s
  | .enn2 m => Sys2Proof.Machine.execEnn2 m s
  | .nopOp50 m f => Sys2Proof.Machine.execNopOp50 m f s
  | .inc3 m => Sys2Proof.Machine.execInc3 m s
  | .dec3 m => Sys2Proof.Machine.execDec3 m s
  | .ent3 m => Sys2Proof.Machine.execEnt3 m s
  | .enn3 m => Sys2Proof.Machine.execEnn3 m s
  | .nopOp51 m f => Sys2Proof.Machine.execNopOp51 m f s
  | .inc4 m => Sys2Proof.Machine.execInc4 m s
  | .dec4 m => Sys2Proof.Machine.execDec4 m s
  | .ent4 m => Sys2Proof.Machine.execEnt4 m s
  | .enn4 m => Sys2Proof.Machine.execEnn4 m s
  | .nopOp52 m f => Sys2Proof.Machine.execNopOp52 m f s
  | .inc5 m => Sys2Proof.Machine.execInc5 m s
  | .dec5 m => Sys2Proof.Machine.execDec5 m s
  | .ent5 m => Sys2Proof.Machine.execEnt5 m s
  | .enn5 m => Sys2Proof.Machine.execEnn5 m s
  | .nopOp53 m f => Sys2Proof.Machine.execNopOp53 m f s
  | .inc6 m => Sys2Proof.Machine.execInc6 m s
  | .dec6 m => Sys2Proof.Machine.execDec6 m s
  | .ent6 m => Sys2Proof.Machine.execEnt6 m s
  | .enn6 m => Sys2Proof.Machine.execEnn6 m s
  | .nopOp54 m f => Sys2Proof.Machine.execNopOp54 m f s
  | .incx m => Sys2Proof.Machine.execIncx m s
  | .decx m => Sys2Proof.Machine.execDecx m s
  | .entx m => Sys2Proof.Machine.execEntx m s
  | .ennx m => Sys2Proof.Machine.execEnnx m s
  | .nopOp55 m f => Sys2Proof.Machine.execNopOp55 m f s
  | .cmpa m f => Sys2Proof.Machine.execCmpa m f s
  | .cmp1 m f => Sys2Proof.Machine.execCmp1 m f s
  | .cmp2 m f => Sys2Proof.Machine.execCmp2 m f s
  | .cmp3 m f => Sys2Proof.Machine.execCmp3 m f s
  | .cmp4 m f => Sys2Proof.Machine.execCmp4 m f s
  | .cmp5 m f => Sys2Proof.Machine.execCmp5 m f s
  | .cmp6 m f => Sys2Proof.Machine.execCmp6 m f s
  | .cmpx m f => Sys2Proof.Machine.execCmpx m f s
  | .unkOp0 m f => Sys2Proof.Machine.execUnkOp0 m f s
  | .unkOp6 m f => Sys2Proof.Machine.execUnkOp6 m f s
  | .unkOp7 m f => Sys2Proof.Machine.execUnkOp7 m f s
  | .unkOp16 m f => Sys2Proof.Machine.execUnkOp16 m f s
  | .unkOp17 m f => Sys2Proof.Machine.execUnkOp17 m f s
  | .unkOp18 m f => Sys2Proof.Machine.execUnkOp18 m f s
  | .unkOp19 m f => Sys2Proof.Machine.execUnkOp19 m f s
  | .unkOp20 m f => Sys2Proof.Machine.execUnkOp20 m f s
  | .unkOp21 m f => Sys2Proof.Machine.execUnkOp21 m f s
  | .unkOp22 m f => Sys2Proof.Machine.execUnkOp22 m f s
  | .unkOp23 m f => Sys2Proof.Machine.execUnkOp23 m f s
  | .unkOp34 m f => Sys2Proof.Machine.execUnkOp34 m f s
  | .unkOp35 m f => Sys2Proof.Machine.execUnkOp35 m f s
  | .unkOp36 m f => Sys2Proof.Machine.execUnkOp36 m f s
  | .unkOp37 m f => Sys2Proof.Machine.execUnkOp37 m f s
  | .unkOp38 m f => Sys2Proof.Machine.execUnkOp38 m f s

end Sys2Proof.Machine
end

