-- ==== Sys2Proof/Machine/Step.lean ====
section
/-! DEFINITION. One step (70 R373, R376): fetch, decode, execute. -/

namespace Sys2Proof.Machine

/-- One turn of the loop of 70 R376. A halted machine executes nothing and stays as it is (10 R31, log 23); a faulted
one stays faulted (log 24). -/
def step (s : State) : Host.Outcome State Fault Refusal :=
  match s.status with
  | .halted => .next s
  | .faulted k => .fault k
  | .running =>
    match fetch s with
    | .error k => .fault k
    | .ok w => exec (decodeIn s.params.opcodeMap w) s

/-- The state whose next step fetches and runs the instruction with bits `w`: the host's construction of 70 R370 and
R372 with one word placed at pc. Where the fetch needs it, the status is RUNNING and a pc outside memory becomes 0
(log 27). -/
def State.withFetchWord (s : State) (nbits w : Nat) : State :=
  let pc := if inMemory s.pc then s.pc else 0
  ((s.setPc pc).start).setMem (s.mem.write pc.toNat (Word.unpack (w % 2 ^ nbits)))

end Sys2Proof.Machine
end

