-- ==== Sys2Proof/Machine/Run.lean ====
section
/-! DEFINITION. run() under a host's step budget (70 R376 to R378). -/

namespace Sys2Proof.Machine

/-- How a run ends (70 R377, R378). -/
inductive RunEnd where
  /-- An HLT executed: the only normal end. -/
  | halted (s : State)
  /-- A check failed: the state that 60 R341 leaves, status FAULTED(kind). -/
  | faulted (k : Fault) (s : State)
  /-- The host's budget is spent: none of the three ends, nothing is said of the program (log 19). -/
  | budgetSpent (s : State)
  /-- A step was refused; this model refuses none. -/
  | refused (r : Refusal)
  deriving DecidableEq, Repr

/-- The loop with at most `n` steps: it goes on while the status is RUNNING (70 R376). -/
def runLoop : Nat → State → RunEnd
  | 0, s =>
    match s.status with
    | .halted => .halted s
    | .faulted k => .faulted k s
    | .running => .budgetSpent s
  | n + 1, s =>
    match s.status with
    | .halted => .halted s
    | .faulted k => .faulted k s
    | .running =>
      match step s with
      | .next t => runLoop n t
      | .fault k => .faulted k (afterFault s k)
      | .refused r => .refused r

/-- The host invokes run() with a budget of `n` steps (70 R370, R378). -/
def run (n : Nat) (s : State) : RunEnd := runLoop n s.start

end Sys2Proof.Machine
end

