-- ==== Sys2Proof/Safety.lean ====
section
/-! DEFINITION. The terms claims use: the groups of instructions (30 R91), what each group reads and writes
(10 R33, 60 R344), when its operand is usable, and the invariants of a run. Nothing here is used by the machine. -/

namespace Sys2Proof.Machine

/-! ## The groups of instructions -/

/-- The six relations of the conditional jumps (30 R87, R88). -/
inductive Rel where
  | lt | eq | gt | ge | ne | le
  deriving DecidableEq, Repr

/-- The four address transfers (30 R89). -/
inductive TransferOp where
  | inc | dec | ent | enn
  deriving DecidableEq, Repr

/-- What a store writes: a register or the constant +0 (43 R150). -/
inductive StoreSrc where
  | reg (r : Reg) | zero
  deriving DecidableEq, Repr

/-- The tagged enumeration of 30 R91. -/
inductive Group where
  | arith (op : AuOp)
  | halt
  | noOp
  | load (r : Reg)
  | store (src : StoreSrc)
  | jump
  | jumpNoSave
  | jumpCI (p : Rel)
  | jumpReg (r : Reg) (p : Rel)
  | transfer (r : Reg) (op : TransferOp)
  | cmp (r : Reg)
  deriving DecidableEq, Repr

end Sys2Proof.Machine

namespace Sys2Proof

open Machine

/-- The group of each instruction, by its name. -/
def Instr.group : Instr → Group
  | .add _ _ => .arith .add
  | .sub _ _ => .arith .sub
  | .mul _ _ => .arith .mul
  | .div _ _ => .arith .div
  | .hlt _ => .halt
  | .nopOp5 _ _ => .noOp
  | .lda _ _ => .load .a
  | .ld1 _ _ => .load .i1
  | .ld2 _ _ => .load .i2
  | .ld3 _ _ => .load .i3
  | .ld4 _ _ => .load .i4
  | .ld5 _ _ => .load .i5
  | .ld6 _ _ => .load .i6
  | .ldx _ _ => .load .x
  | .sta _ _ => .store (.reg .a)
  | .st1 _ _ => .store (.reg .i1)
  | .st2 _ _ => .store (.reg .i2)
  | .st3 _ _ => .store (.reg .i3)
  | .st4 _ _ => .store (.reg .i4)
  | .st5 _ _ => .store (.reg .i5)
  | .st6 _ _ => .store (.reg .i6)
  | .stx _ _ => .store (.reg .x)
  | .stj _ _ => .store (.reg .j)
  | .stz _ _ => .store .zero
  | .jmp _ => .jump
  | .jsj _ => .jumpNoSave
  | .jl _ => .jumpCI .lt
  | .je _ => .jumpCI .eq
  | .jg _ => .jumpCI .gt
  | .jge _ => .jumpCI .ge
  | .jne _ => .jumpCI .ne
  | .jle _ => .jumpCI .le
  | .nopOp39 _ _ => .noOp
  | .jan _ => .jumpReg .a .lt
  | .jaz _ => .jumpReg .a .eq
  | .jap _ => .jumpReg .a .gt
  | .jann _ => .jumpReg .a .ge
  | .janz _ => .jumpReg .a .ne
  | .janp _ => .jumpReg .a .le
  | .nopOp40 _ _ => .noOp
  | .j1n _ => .jumpReg .i1 .lt
  | .j1z _ => .jumpReg .i1 .eq
  | .j1p _ => .jumpReg .i1 .gt
  | .j1nn _ => .jumpReg .i1 .ge
  | .j1nz _ => .jumpReg .i1 .ne
  | .j1np _ => .jumpReg .i1 .le
  | .nopOp41 _ _ => .noOp
  | .j2n _ => .jumpReg .i2 .lt
  | .j2z _ => .jumpReg .i2 .eq
  | .j2p _ => .jumpReg .i2 .gt
  | .j2nn _ => .jumpReg .i2 .ge
  | .j2nz _ => .jumpReg .i2 .ne
  | .j2np _ => .jumpReg .i2 .le
  | .nopOp42 _ _ => .noOp
  | .j3n _ => .jumpReg .i3 .lt
  | .j3z _ => .jumpReg .i3 .eq
  | .j3p _ => .jumpReg .i3 .gt
  | .j3nn _ => .jumpReg .i3 .ge
  | .j3nz _ => .jumpReg .i3 .ne
  | .j3np _ => .jumpReg .i3 .le
  | .nopOp43 _ _ => .noOp
  | .j4n _ => .jumpReg .i4 .lt
  | .j4z _ => .jumpReg .i4 .eq
  | .j4p _ => .jumpReg .i4 .gt
  | .j4nn _ => .jumpReg .i4 .ge
  | .j4nz _ => .jumpReg .i4 .ne
  | .j4np _ => .jumpReg .i4 .le
  | .nopOp44 _ _ => .noOp
  | .j5n _ => .jumpReg .i5 .lt
  | .j5z _ => .jumpReg .i5 .eq
  | .j5p _ => .jumpReg .i5 .gt
  | .j5nn _ => .jumpReg .i5 .ge
  | .j5nz _ => .jumpReg .i5 .ne
  | .j5np _ => .jumpReg .i5 .le
  | .nopOp45 _ _ => .noOp
  | .j6n _ => .jumpReg .i6 .lt
  | .j6z _ => .jumpReg .i6 .eq
  | .j6p _ => .jumpReg .i6 .gt
  | .j6nn _ => .jumpReg .i6 .ge
  | .j6nz _ => .jumpReg .i6 .ne
  | .j6np _ => .jumpReg .i6 .le
  | .nopOp46 _ _ => .noOp
  | .jxn _ => .jumpReg .x .lt
  | .jxz _ => .jumpReg .x .eq
  | .jxp _ => .jumpReg .x .gt
  | .jxnn _ => .jumpReg .x .ge
  | .jxnz _ => .jumpReg .x .ne
  | .jxnp _ => .jumpReg .x .le
  | .nopOp47 _ _ => .noOp
  | .inca _ => .transfer .a .inc
  | .deca _ => .transfer .a .dec
  | .enta _ => .transfer .a .ent
  | .enna _ => .transfer .a .enn
  | .nopOp48 _ _ => .noOp
  | .inc1 _ => .transfer .i1 .inc
  | .dec1 _ => .transfer .i1 .dec
  | .ent1 _ => .transfer .i1 .ent
  | .enn1 _ => .transfer .i1 .enn
  | .nopOp49 _ _ => .noOp
  | .inc2 _ => .transfer .i2 .inc
  | .dec2 _ => .transfer .i2 .dec
  | .ent2 _ => .transfer .i2 .ent
  | .enn2 _ => .transfer .i2 .enn
  | .nopOp50 _ _ => .noOp
  | .inc3 _ => .transfer .i3 .inc
  | .dec3 _ => .transfer .i3 .dec
  | .ent3 _ => .transfer .i3 .ent
  | .enn3 _ => .transfer .i3 .enn
  | .nopOp51 _ _ => .noOp
  | .inc4 _ => .transfer .i4 .inc
  | .dec4 _ => .transfer .i4 .dec
  | .ent4 _ => .transfer .i4 .ent
  | .enn4 _ => .transfer .i4 .enn
  | .nopOp52 _ _ => .noOp
  | .inc5 _ => .transfer .i5 .inc
  | .dec5 _ => .transfer .i5 .dec
  | .ent5 _ => .transfer .i5 .ent
  | .enn5 _ => .transfer .i5 .enn
  | .nopOp53 _ _ => .noOp
  | .inc6 _ => .transfer .i6 .inc
  | .dec6 _ => .transfer .i6 .dec
  | .ent6 _ => .transfer .i6 .ent
  | .enn6 _ => .transfer .i6 .enn
  | .nopOp54 _ _ => .noOp
  | .incx _ => .transfer .x .inc
  | .decx _ => .transfer .x .dec
  | .entx _ => .transfer .x .ent
  | .ennx _ => .transfer .x .enn
  | .nopOp55 _ _ => .noOp
  | .cmpa _ _ => .cmp .a
  | .cmp1 _ _ => .cmp .i1
  | .cmp2 _ _ => .cmp .i2
  | .cmp3 _ _ => .cmp .i3
  | .cmp4 _ _ => .cmp .i4
  | .cmp5 _ _ => .cmp .i5
  | .cmp6 _ _ => .cmp .i6
  | .cmpx _ _ => .cmp .x
  | .unkOp0 _ _ => .noOp
  | .unkOp6 _ _ => .noOp
  | .unkOp7 _ _ => .noOp
  | .unkOp16 _ _ => .noOp
  | .unkOp17 _ _ => .noOp
  | .unkOp18 _ _ => .noOp
  | .unkOp19 _ _ => .noOp
  | .unkOp20 _ _ => .noOp
  | .unkOp21 _ _ => .noOp
  | .unkOp22 _ _ => .noOp
  | .unkOp23 _ _ => .noOp
  | .unkOp34 _ _ => .noOp
  | .unkOp35 _ _ => .noOp
  | .unkOp36 _ _ => .noOp
  | .unkOp37 _ _ => .noOp
  | .unkOp38 _ _ => .noOp

/-- The instruction's address operand. -/
def Instr.addrField : Instr → AddrField
  | .add m _ | .sub m _ | .mul m _ | .div m _ | .nopOp5 m _ | .lda m _ | .ld1 m _ | .ld2 m _ | .ld3 m _
  | .ld4 m _ | .ld5 m _ | .ld6 m _ | .ldx m _ | .sta m _ | .st1 m _ | .st2 m _ | .st3 m _ | .st4 m _
  | .st5 m _ | .st6 m _ | .stx m _ | .stj m _ | .stz m _ | .nopOp39 m _ | .nopOp40 m _ | .nopOp41 m _
  | .nopOp42 m _ | .nopOp43 m _ | .nopOp44 m _ | .nopOp45 m _ | .nopOp46 m _ | .nopOp47 m _ | .nopOp48 m _
  | .nopOp49 m _ | .nopOp50 m _ | .nopOp51 m _ | .nopOp52 m _ | .nopOp53 m _ | .nopOp54 m _ | .nopOp55 m _
  | .cmpa m _ | .cmp1 m _ | .cmp2 m _ | .cmp3 m _ | .cmp4 m _ | .cmp5 m _ | .cmp6 m _ | .cmpx m _
  | .unkOp0 m _ | .unkOp6 m _ | .unkOp7 m _ | .unkOp16 m _ | .unkOp17 m _ | .unkOp18 m _ | .unkOp19 m _
  | .unkOp20 m _ | .unkOp21 m _ | .unkOp22 m _ | .unkOp23 m _ | .unkOp34 m _ | .unkOp35 m _ | .unkOp36 m _
  | .unkOp37 m _ | .unkOp38 m _ => m
  | .hlt m | .jmp m | .jsj m | .jl m | .je m | .jg m | .jge m | .jne m | .jle m | .jan m | .jaz m | .jap m
  | .jann m | .janz m | .janp m | .j1n m | .j1z m | .j1p m | .j1nn m | .j1nz m | .j1np m | .j2n m | .j2z m
  | .j2p m | .j2nn m | .j2nz m | .j2np m | .j3n m | .j3z m | .j3p m | .j3nn m | .j3nz m | .j3np m | .j4n m
  | .j4z m | .j4p m | .j4nn m | .j4nz m | .j4np m | .j5n m | .j5z m | .j5p m | .j5nn m | .j5nz m | .j5np m
  | .j6n m | .j6z m | .j6p m | .j6nn m | .j6nz m | .j6np m | .jxn m | .jxz m | .jxp m | .jxnn m | .jxnz m
  | .jxnp m | .inca m | .deca m | .enta m | .enna m | .inc1 m | .dec1 m | .ent1 m | .enn1 m | .inc2 m
  | .dec2 m | .ent2 m | .enn2 m | .inc3 m | .dec3 m | .ent3 m | .enn3 m | .inc4 m | .dec4 m | .ent4 m
  | .enn4 m | .inc5 m | .dec5 m | .ent5 m | .enn5 m | .inc6 m | .dec6 m | .ent6 m | .enn6 m | .incx m
  | .decx m | .entx m | .ennx m => m

/-- The instruction's modifier byte F. -/
def Instr.modifier : Instr → FieldSpec
  | .add _ f | .sub _ f | .mul _ f | .div _ f | .nopOp5 _ f | .lda _ f | .ld1 _ f | .ld2 _ f | .ld3 _ f
  | .ld4 _ f | .ld5 _ f | .ld6 _ f | .ldx _ f | .sta _ f | .st1 _ f | .st2 _ f | .st3 _ f | .st4 _ f
  | .st5 _ f | .st6 _ f | .stx _ f | .stj _ f | .stz _ f | .nopOp39 _ f | .nopOp40 _ f | .nopOp41 _ f
  | .nopOp42 _ f | .nopOp43 _ f | .nopOp44 _ f | .nopOp45 _ f | .nopOp46 _ f | .nopOp47 _ f | .nopOp48 _ f
  | .nopOp49 _ f | .nopOp50 _ f | .nopOp51 _ f | .nopOp52 _ f | .nopOp53 _ f | .nopOp54 _ f | .nopOp55 _ f
  | .cmpa _ f | .cmp1 _ f | .cmp2 _ f | .cmp3 _ f | .cmp4 _ f | .cmp5 _ f | .cmp6 _ f | .cmpx _ f
  | .unkOp0 _ f | .unkOp6 _ f | .unkOp7 _ f | .unkOp16 _ f | .unkOp17 _ f | .unkOp18 _ f | .unkOp19 _ f
  | .unkOp20 _ f | .unkOp21 _ f | .unkOp22 _ f | .unkOp23 _ f | .unkOp34 _ f | .unkOp35 _ f | .unkOp36 _ f
  | .unkOp37 _ f | .unkOp38 _ f => f
  | .jmp _ | .jan _ | .j1n _ | .j2n _ | .j3n _ | .j4n _ | .j5n _ | .j6n _ | .jxn _ | .inca _ | .inc1 _
  | .inc2 _ | .inc3 _ | .inc4 _ | .inc5 _ | .inc6 _ | .incx _ => 0
  | .jsj _ | .jaz _ | .j1z _ | .j2z _ | .j3z _ | .j4z _ | .j5z _ | .j6z _ | .jxz _ | .deca _ | .dec1 _
  | .dec2 _ | .dec3 _ | .dec4 _ | .dec5 _ | .dec6 _ | .decx _ => 1
  | .hlt _ | .jap _ | .j1p _ | .j2p _ | .j3p _ | .j4p _ | .j5p _ | .j6p _ | .jxp _ | .enta _ | .ent1 _
  | .ent2 _ | .ent3 _ | .ent4 _ | .ent5 _ | .ent6 _ | .entx _ => 2
  | .jann _ | .j1nn _ | .j2nn _ | .j3nn _ | .j4nn _ | .j5nn _ | .j6nn _ | .jxnn _ | .enna _ | .enn1 _
  | .enn2 _ | .enn3 _ | .enn4 _ | .enn5 _ | .enn6 _ | .ennx _ => 3
  | .jl _ | .janz _ | .j1nz _ | .j2nz _ | .j3nz _ | .j4nz _ | .j5nz _ | .j6nz _ | .jxnz _ => 4
  | .je _ | .janp _ | .j1np _ | .j2np _ | .j3np _ | .j4np _ | .j5np _ | .j6np _ | .jxnp _ => 5
  | .jg _ => 6
  | .jge _ => 7
  | .jne _ => 8
  | .jle _ => 9

end Sys2Proof

namespace Sys2Proof.Machine

/-- reg(k) (30 R91). -/
def regOf (k : Nat) : Reg :=
  match k with
  | 0 => .a
  | 1 => .i1
  | 2 => .i2
  | 3 => .i3
  | 4 => .i4
  | 5 => .i5
  | 6 => .i6
  | _ => .x

/-- The predicates of the register jumps by sub-mode 0..5 (30 R88). -/
def relOfRegMode (f : Nat) : Rel :=
  match f with
  | 0 => .lt
  | 1 => .eq
  | 2 => .gt
  | 3 => .ge
  | 4 => .ne
  | _ => .le

/-- The address transfers by sub-mode 0..3 (30 R89). -/
def transferOfMode (f : Nat) : TransferOp :=
  match f with
  | 0 => .inc
  | 1 => .dec
  | 2 => .ent
  | _ => .enn

/-- The jumps of opcode 39 by sub-mode (30 R87). -/
def jumpGroup (f : Nat) : Group :=
  match f with
  | 0 => .jump
  | 1 => .jumpNoSave
  | 4 => .jumpCI .lt
  | 5 => .jumpCI .eq
  | 6 => .jumpCI .gt
  | 7 => .jumpCI .ge
  | 8 => .jumpCI .ne
  | 9 => .jumpCI .le
  | _ => .noOp

/-- Decode as 30 R91 writes it, by ranges of C and F. -/
def classify (w : Word) : Group :=
  let c := w.opcode.toNat
  let f := w.modifier.toNat
  if c = 1 then .arith .add
  else if c = 2 then .arith .sub
  else if c = 3 then .arith .mul
  else if c = 4 then .arith .div
  else if c = 5 then (if f = 2 then .halt else .noOp)
  else if 8 ≤ c ∧ c ≤ 15 then .load (regOf (c - 8))
  else if 24 ≤ c ∧ c ≤ 31 then .store (.reg (regOf (c - 24)))
  else if c = 32 then .store (.reg .j)
  else if c = 33 then .store .zero
  else if c = 39 then jumpGroup f
  else if 40 ≤ c ∧ c ≤ 47 ∧ f ≤ 5 then .jumpReg (regOf (c - 40)) (relOfRegMode f)
  else if 48 ≤ c ∧ c ≤ 55 ∧ f ≤ 3 then .transfer (regOf (c - 48)) (transferOfMode f)
  else if 56 ≤ c then .cmp (regOf (c - 56))
  else .noOp

/-! ## What a group reads and writes -/

/-- The relation on the comparison indicator (30 R87). -/
def Rel.holdsCI (p : Rel) (c : CI) : Prop :=
  match p with
  | .lt => c = .less
  | .eq => c = .equal
  | .gt => c = .greater
  | .ge => c ≠ .less
  | .ne => c ≠ .equal
  | .le => c ≠ .greater

/-- The predicate on a register's signed value (45 R200). -/
def Rel.holds (p : Rel) (v : Int) : Prop :=
  match p with
  | .lt => v < 0
  | .eq => v = 0
  | .gt => v > 0
  | .ge => v ≥ 0
  | .ne => v ≠ 0
  | .le => v ≤ 0

/-- The registers an instruction of the group may write (10 R33). -/
def Group.dests : Group → List Reg
  | .arith .add | .arith .sub => [.a]
  | .arith .mul | .arith .div => [.a, .x]
  | .load r | .transfer r _ => [r]
  | .jump | .jumpCI _ | .jumpReg _ _ => [.j]
  | .halt | .noOp | .store _ | .jumpNoSave | .cmp _ => []

/-- "computes EA" (60 R344). -/
def Group.computesEA : Group → Bool
  | .arith _ | .load _ | .store _ | .jump | .jumpNoSave | .jumpCI _ | .jumpReg _ _ | .transfer _ _ | .cmp _ => true
  | .halt | .noOp => false

/-- "checks FieldOK(F)", which the groups that reach memory do (60 R344). -/
def Group.checksField : Group → Bool
  | .arith _ | .load _ | .store _ | .cmp _ => true
  | .jump | .jumpNoSave | .jumpCI _ | .jumpReg _ _ | .transfer _ _ | .halt | .noOp => false

/-- The group is a store. -/
def Group.isStore : Group → Bool
  | .store _ => true
  | .arith _ | .load _ | .cmp _ | .jump | .jumpNoSave | .jumpCI _ | .jumpReg _ _ | .transfer _ _ | .halt | .noOp => false

/-- The group is a compare. -/
def Group.isCompare : Group → Bool
  | .cmp _ => true
  | .arith _ | .load _ | .store _ | .jump | .jumpNoSave | .jumpCI _ | .jumpReg _ _ | .transfer _ _ | .halt | .noOp => false

/-- The group is a jump on the comparison indicator. -/
def Group.readsCI : Group → Bool
  | .jumpCI _ => true
  | .arith _ | .load _ | .store _ | .cmp _ | .jump | .jumpNoSave | .jumpReg _ _ | .transfer _ _ | .halt | .noOp => false

/-- The word a store takes from its source (43 R150). -/
def StoreSrc.word (src : StoreSrc) (s : State) : Word :=
  match src with
  | .reg r => s.reg r
  | .zero => Word.plusZero

/-- The register the index field names, for 1..6 (30 R84). -/
def indexRegister (m : AddrField) : Option Reg :=
  if 1 ≤ m.index.toNat ∧ m.index.toNat ≤ 6 then some (regOf m.index.toNat) else none

/-- The instruction is a jump that this state takes (44 R170, 45 R200). -/
def Taken (g : Group) (s : State) : Prop :=
  match g with
  | .jump | .jumpNoSave => True
  | .jumpCI p => p.holdsCI s.ci
  | .jumpReg r p => p.holds (val (s.reg r))
  | .arith _ | .load _ | .store _ | .cmp _ | .transfer _ _ | .halt | .noOp => False

/-- The group is a jump that saves J when taken (44 R170, 45 R200). -/
def Group.links : Group → Bool
  | .jump | .jumpCI _ | .jumpReg _ _ => true
  | .arith _ | .load _ | .store _ | .cmp _ | .jumpNoSave | .transfer _ _ | .halt | .noOp => false

/-- The register whose sign the jump decoder is given, where it is given one (45 R200). -/
def Group.testedReg : Group → Option Reg
  | .jumpReg r _ => some r
  | .arith _ | .load _ | .store _ | .cmp _ | .jump | .jumpNoSave | .jumpCI _ | .transfer _ _ | .halt | .noOp => none

/-- The instruction at the pc: the word there, decoded under the state's opcode map (70 R375). -/
def instrAtPc (s : State) : Instr := decodeIn s.params.opcodeMap (s.mem.read s.pc.toNat)

/-! ## Operands and results -/

/-- The conditions under which the operand fetch meets no fault: the defined cases of 70 R379. -/
def OperandReady (m : AddrField) (f : FieldSpec) (s : State) : Prop :=
  indexOK m ∧ fieldOK f ∧ inMemory (eaValue m s)

/-- The memory word the operand names. -/
def memWord (m : AddrField) (s : State) : Word := s.mem.read (eaValue m s).toNat

/-- The operand: the field of the memory word (40 R104). -/
def operandWord (m : AddrField) (f : FieldSpec) (s : State) : Word := field (memWord m s) f

/-- The sign a zero result takes: the old register's under `keep`, else + (10 R26). -/
def zeroSign (p : Params) (old : Word) : Bool :=
  match p.zeroResultSign with
  | .keep => old.sign
  | .positive => false

/-- The dividend of DIV is negative: the sign of A, or of X (40 R103, parameter DIVIDEND_SIGN). -/
def dividendNegative (s : State) : Bool :=
  match s.params.dividendSign with
  | .signOfA => s.a.sign
  | .signOfX => s.x.sign

/-- `w` is the word of the number `v`, a zero with the sign `z`. -/
def IsWordOf (w : Word) (v : Int) (z : Bool) : Prop :=
  val w = v ∧ w.sign = if v = 0 then z else decide (v < 0)

/-- `w` is the truncation of an out-of-range `v`: the low 30 bits of the magnitude, the sign of `v` (10 R25). -/
def IsTruncationOf (w : Word) (v : Int) : Prop :=
  mag w = v.natAbs % 2 ^ 30 ∧ w.sign = decide (v < 0)

/-- The number fits a word: magnitude below 2^30 (10 R25). -/
def Fits (v : Int) : Prop := v.natAbs < 2 ^ 30

/-- The exact number an instruction converts with WordOf or ZWordOf under ARITH_OVERFLOW, where it does: the sum or
difference of ADD, SUB, INC, DEC and the address of ENT, ENN (60 R342). -/
def convertedValue (i : Instr) (s : State) : Option Int :=
  match i.group with
  | .arith .add => some (val s.a + val (operandWord i.addrField i.modifier s))
  | .arith .sub => some (val s.a - val (operandWord i.addrField i.modifier s))
  | .transfer r .inc => some (val (s.reg r) + eaValue i.addrField s)
  | .transfer r .dec => some (val (s.reg r) - eaValue i.addrField s)
  | .transfer _ .ent => some (eaValue i.addrField s)
  | .transfer _ .enn => some (-eaValue i.addrField s)
  | .arith .mul | .arith .div | .load _ | .store _ | .cmp _ | .jump | .jumpNoSave | .jumpCI _ | .jumpReg _ _ | .halt
  | .noOp => none

/-- The instruction meets only defined cases in this state (70 R379): a usable operand where it has one, a divisor
that is not 0 and a quotient that fits, a number that fits where ARITH_OVERFLOW = fault. -/
def DefinedCase (i : Instr) (s : State) : Prop :=
  (i.group.computesEA = true → indexOK i.addrField) ∧
  (i.group.checksField = true → fieldOK i.modifier ∧ inMemory (eaValue i.addrField s)) ∧
  (i.group = .arith .div → mag s.a < (val (operandWord i.addrField i.modifier s)).natAbs) ∧
  (s.params.arithOverflow = .fault → ∀ v, convertedValue i s = some v → Fits v)

/-- Which fault kinds an instruction of the group may raise (60 R342). -/
def Group.mayRaise (g : Group) (p : Params) (k : Fault) : Prop :=
  match k with
  | .fetchOutOfRange _ => False
  | .indexInvalid _ => g.computesEA = true
  | .fieldSpecInvalid _ => g.checksField = true
  | .memoryOutOfRange _ => g.checksField = true
  | .divideByZero => g = .arith .div
  | .quotientOverflow => g = .arith .div
  | .arithmeticOverflow =>
    p.arithOverflow = .fault ∧ (g = .arith .add ∨ g = .arith .sub ∨ ∃ r op, g = .transfer r op)

/-! ## Invariants and safe runs -/

/-- The memory is in its canonical form. -/
def CanonicalMemory (s : State) : Prop := s.mem.wf = true

/-- The pc is an address an instruction can lead to: an effective address or a fall-through (10 R30, 20 R61). -/
def PcInReach (s : State) : Prop := -(2 ^ 30 + 4094) ≤ s.pc ∧ s.pc ≤ 2 ^ 30 + 4094

/-- J holds what a jump saves: a non-negative word of at most 4000 (43 R159, 44 R171). -/
def LinkInRange (s : State) : Prop := s.j.sign = false ∧ mag s.j ≤ 4000

/-- A halted machine stands at an HLT inside memory (41 R120, 70 R377). -/
def HaltedAtHlt (s : State) : Prop := s.status = .halted → inMemory s.pc = true ∧ (instrAtPc s).group = .halt

/-- A run with no fault, the premise of a claim about a program (60 R341). -/
def SafeRun (s : State) : Prop := ∀ n k t, run n s ≠ .faulted k t

/-- The outcome with its next state changed. -/
def mapNext (g : State → State) (o : StepOutcome) : StepOutcome :=
  match o with
  | .next s => .next (g s)
  | .fault k => .fault k
  | .refused r => .refused r

end Sys2Proof.Machine
end

