-- ==== Sys2Proof/Certificates/Slice0/Obligations.lean ====
section
/-! DEFINITION. The statements for the provers. Every statement about a state holds for every value of
`State.params`: none rests on a default of an open parameter (logs 1, 8 to 10) but where it names the value. -/

open Sys2Proof Sys2Proof.Machine

/-! ## Encoding -/

/-- Decoding the word of a well-formed instruction gives the instruction back, every operand at every value
(30 R80, R85 to R91; default numbers, log 1). -/
def Obligations.DecodeEncodeRoundTrip : Prop :=
  ∀ i : Instr, i.wellFormed = true → decode (encode i) = i

/-- Every word decodes to a well-formed instruction whose word it is: no encoding is illegal (30 R90, R91). -/
def Obligations.EncodeDecodeRoundTrip : Prop :=
  ∀ w : Word, (decode w).wellFormed = true ∧ encode (decode w) = w

/-- The decoder by name agrees with Decode written by ranges of C and F, in default numbers (log 1), and keeps the
fields (30 R91, 00 R13). -/
def Obligations.DecodeAgreesWithRanges : Prop :=
  ∀ w : Word, (decode w).group = classify w ∧ (decode w).addrField = w.addrField ∧ (decode w).modifier = w.modifier

/-- Another opcode map changes decoding alone (00 R8, 92 D1): a word whose numbers stand for the default opcode and
sub-mode of `i` is `i`, whatever its operand bits; the default map changes nothing; a field specification is never
renumbered. -/
def Obligations.OpcodeMapOnlyRenumbers : Prop :=
  ∀ (p : OpcodeMap) (w : Word),
    (decodeIn p w).addrField = w.addrField ∧ decodeIn .default w = decode w ∧
    (∀ i : Instr, i.wellFormed = true → (encode i).opcode = p.opcode w.opcode → i.addrField = w.addrField →
      i.modifier = (if hasSubmodes (p.opcode w.opcode) = true then p.submode (p.opcode w.opcode) w.modifier
        else w.modifier) → decodeIn p w = i) ∧
    ((decodeIn p w).group.checksField = true → (decodeIn p w).modifier = w.modifier)

/-- Words written out from the spec's encoding decode to the instructions they stand for: 30 R93, 95 VP7 to VP10,
VJ21, VR28, VT9, VU2. The numbers are the default OPCODE_MAP, the packing 10 R23 (logs 1, 2). -/
def Obligations.SpecWordsDecode : Prop :=
  decodeTableWord 32 0x1F400148 = some (.lda ⟨false, 2000, 0⟩ 5) ∧
  decodeTableWord 32 0x00000085 = some (.hlt ⟨false, 0, 0⟩) ∧
  decodeTableWord 32 0x40040148 = some (.lda ⟨true, 1, 0⟩ 5) ∧
  decodeTableWord 32 0x3FFC00B7 = some (.entx ⟨false, 4095, 0⟩) ∧
  decodeTableWord 32 0x3FFC9085 = some (.hlt ⟨false, 4095, 9⟩) ∧
  decodeTableWord 32 0x0FA00144 = some (.div ⟨false, 1000, 0⟩ 5) ∧
  decodeTableWord 32 0x1F4000A0 = some (.stj ⟨false, 2000, 0⟩ 2) ∧
  decodeTableWord 32 0x04B00027 = some (.jmp ⟨false, 300, 0⟩) ∧
  decodeTableWord 32 0x04B000A7 = some (.nopOp39 ⟨false, 300, 0⟩ 2) ∧
  decodeTableWord 32 0x04B001A8 = some (.nopOp40 ⟨false, 300, 0⟩ 6) ∧
  decodeTableWord 32 0x401410B0 = some (.enta ⟨true, 5, 1⟩) ∧
  decodeTableWord 32 0x0FA0617E = some (.cmp6 ⟨false, 1000, 6⟩ 5) ∧
  decodeTableWord 32 0x3FFFFFC6 = some (.unkOp6 ⟨false, 4095, 63⟩ 63)

/-- The packed form of 10 R23 loses nothing, and its low 30 bits are the magnitude. -/
def Obligations.PackedFormRoundTrip : Prop :=
  (∀ w : Word, w.pack < 2 ^ 31 ∧ Word.unpack w.pack = w ∧ w.pack % 2 ^ 30 = mag w ∧
    (w.pack / 2 ^ 30 = 1 ↔ w.sign = true)) ∧
  (∀ n : Nat, n < 2 ^ 31 → (Word.unpack n).pack = n)

/-- The host's word builder: in range it gives the word with these fields and this signed address, out of range it
refuses (30 R92). -/
def Obligations.HostWordBuilder : Prop :=
  ∀ (op : Nat) (address : Int) (index f : Nat),
    (op ≤ 63 → address.natAbs ≤ 4095 → index ≤ 6 → f ≤ 63 →
      ∃ w, instrWord op address index f = some w ∧ w.opcode.toNat = op ∧ w.modifier.toNat = f ∧
        w.indexField.toNat = index ∧ addrValue w.addrField = address ∧ w.sign = decide (address < 0)) ∧
    (63 < op ∨ 4095 < address.natAbs ∨ 6 < index ∨ 63 < f → instrWord op address index f = none) ∧
    instrWordDefault op address index = instrWord op address index 5

/-! ## Words, integers and fields -/

/-- Magnitude and value (10 R24). -/
def Obligations.MagnitudeAndValue : Prop :=
  (∀ w : Word, mag w = ∑ i ∈ Finset.range 5, (w.byte i).toNat * 64 ^ i ∧ mag w ≤ 2 ^ 30 - 1 ∧
    val w = if w.sign = true then -(mag w : Int) else mag w) ∧
  val Word.plusZero = 0 ∧ val Word.minusZero = 0

/-- WordOf (10 R25): a number that fits gives the word with that value; one that does not is truncated or faults, as
the parameter ARITH_OVERFLOW says. -/
def Obligations.WordOfNumber : Prop :=
  ∀ v : Int,
    (Fits v → ∀ o, ∃ w, wordOf o v = .ok w ∧ IsWordOf w v false) ∧
    (¬Fits v → (∃ w, wordOf .truncate v = .ok w ∧ IsTruncationOf w v) ∧
      wordOf .fault v = .error .arithmeticOverflow)

/-- Words compare numerically, so the zeros compare EQUAL: what CMPA with the whole word tells (10 R27). -/
def Obligations.WordsCompareNumerically : Prop :=
  ∀ (m : AddrField) (s : State), OperandReady m 5 s →
    ∃ t, exec (.cmpa m 5) s = .next t ∧
      (t.ci = .less ↔ val s.a < val (memWord m s)) ∧
      (t.ci = .equal ↔ val s.a = val (memWord m s)) ∧
      (t.ci = .greater ↔ val s.a > val (memWord m s)) ∧
      (s.a = .plusZero ∧ memWord m s = .minusZero ∨ s.a = .minusZero ∧ memWord m s = .plusZero → t.ci = .equal)

/-- The 21 valid field specifications, their counts, and the bytes and sign each covers (20 R55, R56). -/
def Obligations.FieldSpecTable : Prop :=
  (∀ f : FieldSpec, (fieldOK f = true ↔ fieldL f ≤ fieldR f ∧ fieldR f ≤ 5) ∧ f.toNat = 8 * fieldL f + fieldR f ∧
    (fieldOK f = true → ∀ i, (fieldLo f ≤ i ∧ i < fieldLo f + fieldCount f) ↔
      ∃ p, max (fieldL f) 1 ≤ p ∧ p ≤ fieldR f ∧ i = 5 - p)) ∧
  ((List.range 64).filter fun n => fieldOK (BitVec.ofNat 6 n)).map
      (fun n => (n, fieldL (BitVec.ofNat 6 n), fieldR (BitVec.ofNat 6 n), fieldCount (BitVec.ofNat 6 n))) =
    [(0, 0, 0, 0), (1, 0, 1, 1), (2, 0, 2, 2), (3, 0, 3, 3), (4, 0, 4, 4), (5, 0, 5, 5)] ++
    [(9, 1, 1, 1), (10, 1, 2, 2), (11, 1, 3, 3), (12, 1, 4, 4), (13, 1, 5, 5)] ++
    [(18, 2, 2, 1), (19, 2, 3, 2), (20, 2, 4, 3), (21, 2, 5, 4)] ++
    [(27, 3, 3, 1), (28, 3, 4, 2), (29, 3, 5, 3)] ++ [(36, 4, 4, 1), (37, 4, 5, 2)] ++ [(45, 5, 5, 1)]

/-- The field extractor (20 R57): right-justified bytes, the sign only where L = 0, so that the magnitude is the
field's read as a number of its own width. -/
def Obligations.FieldExtractor : Prop :=
  ∀ (w : Word) (f : FieldSpec), fieldOK f = true →
    (field w f).sign = (if fieldL f = 0 then w.sign else false) ∧
    (∀ k, k < 5 → (field w f).byte k = if k < fieldCount f then w.byte (fieldLo f + k) else 0) ∧
    mag (field w f) = mag w / 64 ^ fieldLo f % 64 ^ fieldCount f ∧
    field w 5 = w ∧ field w 0 = Word.zero w.sign

/-- The field writer (20 R58): the source's low bytes in the field, every other byte and, where L ≥ 1, the sign kept;
what was written reads back. -/
def Obligations.FieldWriter : Prop :=
  ∀ (d s : Word) (f : FieldSpec), fieldOK f = true →
    (setField d f s).sign = (if fieldL f = 0 then s.sign else d.sign) ∧
    (∀ k, k < fieldCount f → (setField d f s).byte (fieldLo f + k) = s.byte k) ∧
    (∀ i, i < 5 → i < fieldLo f ∨ fieldLo f + fieldCount f ≤ i → (setField d f s).byte i = d.byte i) ∧
    mag (field (setField d f s) f) = mag s % 64 ^ fieldCount f ∧
    setField d 5 s = s ∧ setField d 0 s = { d with sign := s.sign }

/-- The field round trip, and the field units' outputs (20 R60; the ports are the spec's own decision). -/
def Obligations.FieldRoundTrip : Prop :=
  ∀ (d w : Word) (f : FieldSpec),
    (fieldOK f = true → setField w f (field w f) = w ∧ (FX w f).r = field w f ∧ (FW d f w).r = setField d f w) ∧
    ((FX w f).bad = true ↔ ¬(fieldL f ≤ fieldR f ∧ fieldR f ≤ 5)) ∧
    ((FW d f w).bad = true ↔ ¬(fieldL f ≤ fieldR f ∧ fieldR f ≤ 5))

/-- The effective address: the signed address plus the whole index register, exact, inside ±(2^30 + 4094); an index
field of 7..63 faults; the address generator unit agrees (20 R61, R62; 30 R82, R84). -/
def Obligations.EffectiveAddress : Prop :=
  (∀ (m : AddrField) (s : State),
    (m.index = 0 → ea m s = .ok (addrValue m)) ∧
    (m.index = 1 → ea m s = .ok (addrValue m + val s.i1)) ∧
    (m.index = 2 → ea m s = .ok (addrValue m + val s.i2)) ∧
    (m.index = 3 → ea m s = .ok (addrValue m + val s.i3)) ∧
    (m.index = 4 → ea m s = .ok (addrValue m + val s.i4)) ∧
    (m.index = 5 → ea m s = .ok (addrValue m + val s.i5)) ∧
    (m.index = 6 → ea m s = .ok (addrValue m + val s.i6)) ∧
    (6 < m.index.toNat → ea m s = .error (.indexInvalid m.index)) ∧
    (∀ a, ea m s = .ok a → -(2 ^ 30 + 4094) ≤ a ∧ a ≤ 2 ^ 30 + 4094)) ∧
  (∀ w : Word, addrValue w.addrField = val (field w 2)) ∧
  (∀ (w : Word) (s : State), (AG w s.i1 s.i2 s.i3 s.i4 s.i5 s.i6).bad = decide (6 < w.indexField.toNat) ∧
    ∀ a, ea w.addrField s = .ok a → (AG w s.i1 s.i2 s.i3 s.i4 s.i5 s.i6).ea = a)

/-! ## Results -/

/-- ADD and SUB (40 R100, R101): A becomes the word of the exact sum or difference. Where it does not fit,
ARITH_OVERFLOW decides (10 R25, R26: the spec's decisions D8, D9). -/
def Obligations.AddSubResult : Prop :=
  ∀ (m : AddrField) (f : FieldSpec) (s : State) (i : Instr) (v : Int), OperandReady m f s →
    i = .add m f ∧ v = val s.a + val (operandWord m f s) ∨ i = .sub m f ∧ v = val s.a - val (operandWord m f s) →
    (Fits v → ∃ w, exec i s = .next { s with a := w, pc := s.pc + 1 } ∧ IsWordOf w v (zeroSign s.params s.a)) ∧
    (¬Fits v → s.params.arithOverflow = .truncate →
      ∃ w, exec i s = .next { s with a := w, pc := s.pc + 1 } ∧ IsTruncationOf w v) ∧
    (¬Fits v → s.params.arithOverflow = .fault → exec i s = .fault .arithmeticOverflow)

/-- MUL (40 R102): AX holds the exact product, high half in A, low 30 bits in X, one sign, + for a zero product. -/
def Obligations.MulResult : Prop :=
  ∀ (m : AddrField) (f : FieldSpec) (s : State), OperandReady m f s →
    ∃ a x, exec (.mul m f) s = .next { s with a := a, x := x, pc := s.pc + 1 } ∧
      mag a * 2 ^ 30 + mag x = (val s.a * val (operandWord m f s)).natAbs ∧
      a.sign = decide (val s.a * val (operandWord m f s) < 0) ∧
      x.sign = decide (val s.a * val (operandWord m f s) < 0)

/-- DIV (40 R103): dividend = divisor × quotient + remainder, the remainder smaller than the divisor and of the
dividend's sign; a zero divisor and a quotient that does not fit (mag(A) ≥ |V|) fault. -/
def Obligations.DivResult : Prop :=
  ∀ (m : AddrField) (f : FieldSpec) (s : State) (d v : Int), OperandReady m f s →
    v = val (operandWord m f s) →
    d = (if dividendNegative s = true then -1 else 1) * ((mag s.a : Int) * 2 ^ 30 + mag s.x) →
    (v = 0 → exec (.div m f) s = .fault .divideByZero) ∧
    (v ≠ 0 → v.natAbs ≤ mag s.a → exec (.div m f) s = .fault .quotientOverflow) ∧
    (mag s.a < v.natAbs →
      ∃ q r, exec (.div m f) s = .next { s with a := q, x := r, pc := s.pc + 1 } ∧
        d = v * val q + val r ∧ (val r).natAbs < v.natAbs ∧ (val r ≠ 0 → (val r < 0 ↔ d < 0)) ∧
        (val q = 0 → q.sign = zeroSign s.params s.a) ∧ (val r = 0 → r.sign = zeroSign s.params s.x))

/-- LDA, LD1..LD6, LDX (42 R130 to R138): the register receives the extracted word, the address read before. -/
def Obligations.LoadResult : Prop :=
  ∀ (i : Instr) (r : Reg) (s : State), i.group = .load r → OperandReady i.addrField i.modifier s →
    exec i s = .next ((s.setReg r (field (s.mem.read (eaValue i.addrField s).toNat) i.modifier)).setPc (s.pc + 1))

/-- STA, ST1..ST6, STX, STJ, STZ (43 R150 to R160): the word at the effective address receives the source in its
field; every other word, every register, CI, the status and the parameters (the model's choice, log 32) stay. -/
def Obligations.StoreResult : Prop :=
  ∀ (i : Instr) (src : StoreSrc) (s : State), i.group = .store src → OperandReady i.addrField i.modifier s →
    ∃ t, exec i s = .next t ∧
      t.mem.read (eaValue i.addrField s).toNat =
        setField (s.mem.read (eaValue i.addrField s).toNat) i.modifier (src.word s) ∧
      (∀ b : Nat, (b : Int) ≠ eaValue i.addrField s → t.mem.read b = s.mem.read b) ∧
      (∀ r, t.reg r = s.reg r) ∧ t.ci = s.ci ∧ t.pc = s.pc + 1 ∧ t.status = s.status ∧ t.params = s.params

/-- JMP saves the fall-through address in J and jumps; JSJ jumps and leaves J (44 R171, R172). The target is not
checked here. -/
def Obligations.UnconditionalJumps : Prop :=
  ∀ (m : AddrField) (s : State), indexOK m = true →
    (inMemory s.pc = true →
      ∃ j, exec (.jmp m) s = .next { s with j := j, pc := eaValue m s } ∧ IsWordOf j (s.pc + 1) false) ∧
    exec (.jsj m) s = .next { s with pc := eaValue m s }

/-- JL, JE, JG, JGE, JNE, JLE (44 R173 to R178): on a true test of CI save J and jump, else fall through. -/
def Obligations.ConditionalJumps : Prop :=
  ∀ (i : Instr) (p : Rel) (s : State), i.group = .jumpCI p → indexOK i.addrField = true →
    (p.holdsCI s.ci → inMemory s.pc = true →
      ∃ j, exec i s = .next { s with j := j, pc := eaValue i.addrField s } ∧ IsWordOf j (s.pc + 1) false) ∧
    (¬p.holdsCI s.ci → exec i s = .next { s with pc := s.pc + 1 })

/-- The 48 register jumps (45 R201 to R249): on a true predicate of the register's signed value save J and jump, else
fall through; the zeros behave alike. -/
def Obligations.RegisterJumps : Prop :=
  ∀ (i : Instr) (r : Reg) (p : Rel) (s : State), i.group = .jumpReg r p → indexOK i.addrField = true →
    (p.holds (val (s.reg r)) → inMemory s.pc = true →
      ∃ j, exec i s = .next { s with j := j, pc := eaValue i.addrField s } ∧ IsWordOf j (s.pc + 1) false) ∧
    (¬p.holds (val (s.reg r)) → exec i s = .next { s with pc := s.pc + 1 })

/-- INC and DEC of A, I1..I6, X (46 R261): the register plus or minus the effective address, as ADD and SUB. -/
def Obligations.IncDecResult : Prop :=
  ∀ (i : Instr) (r : Reg) (s : State) (v : Int), indexOK i.addrField = true →
    i.group = .transfer r .inc ∧ v = val (s.reg r) + eaValue i.addrField s ∨
      i.group = .transfer r .dec ∧ v = val (s.reg r) - eaValue i.addrField s →
    (Fits v → ∃ w, exec i s = .next ((s.setReg r w).setPc (s.pc + 1)) ∧ IsWordOf w v (zeroSign s.params (s.reg r))) ∧
    (¬Fits v → s.params.arithOverflow = .truncate →
      ∃ w, exec i s = .next ((s.setReg r w).setPc (s.pc + 1)) ∧ IsTruncationOf w v) ∧
    (¬Fits v → s.params.arithOverflow = .fault → exec i s = .fault .arithmeticOverflow)

/-- ENT and ENN of A, I1..I6, X (46 R262): the effective address or its negation; a zero address gives the zero with
the instruction word's sign, flipped for ENN; an address that does not fit follows
ARITH_OVERFLOW, whose two treatments are the spec's decision D8 (log 8); I > 6 faults, the spec's decision D5
(log 5). -/
def Obligations.EnterResult : Prop :=
  ∀ (i : Instr) (r : Reg) (s : State) (v : Int) (z : Bool),
    i.group = .transfer r .ent ∧ v = eaValue i.addrField s ∧ z = (encode i).sign ∨
      i.group = .transfer r .enn ∧ v = -eaValue i.addrField s ∧ z = !(encode i).sign →
    (indexOK i.addrField = false → exec i s = .fault (.indexInvalid i.addrField.index)) ∧
    (indexOK i.addrField = true → v = 0 → exec i s = .next ((s.setReg r (Word.zero z)).setPc (s.pc + 1))) ∧
    (indexOK i.addrField = true → v ≠ 0 → Fits v →
      ∃ w, exec i s = .next ((s.setReg r w).setPc (s.pc + 1)) ∧ IsWordOf w v false) ∧
    (indexOK i.addrField = true → ¬Fits v → s.params.arithOverflow = .truncate →
      ∃ w, exec i s = .next ((s.setReg r w).setPc (s.pc + 1)) ∧ IsTruncationOf w v) ∧
    (indexOK i.addrField = true → ¬Fits v → s.params.arithOverflow = .fault →
      exec i s = .fault .arithmeticOverflow)

/-- CMPA, CMP1..CMP6, CMPX (47 R300 to R308): CI tells how the register's field compares with the memory word's same
field, and nothing else changes. -/
def Obligations.CompareResult : Prop :=
  ∀ (i : Instr) (r : Reg) (s : State), i.group = .cmp r → OperandReady i.addrField i.modifier s →
    ∃ c, exec i s = .next { s with ci := c, pc := s.pc + 1 } ∧
      (c = .less ↔ val (field (s.reg r) i.modifier) < val (operandWord i.addrField i.modifier s)) ∧
      (c = .equal ↔ val (field (s.reg r) i.modifier) = val (operandWord i.addrField i.modifier s)) ∧
      (c = .greater ↔ val (field (s.reg r) i.modifier) > val (operandWord i.addrField i.modifier s)) ∧
      (i.modifier = 0 → c = .equal)

/-- HLT (41 R120): HALTED, the pc stays, no field of the word is read, nothing else changes. -/
def Obligations.HaltResult : Prop :=
  ∀ (m : AddrField) (s : State), exec (.hlt m) s = .next { s with status := .halted }

/-- The no-op words (30 R90): exactly these words under the default OPCODE_MAP, whose numbers are PRESUMED (log 1), and
each no-op advances the pc and does nothing else, whatever its index, address and modifier. -/
def Obligations.NoOpWords : Prop :=
  (∀ w : Word, (decode w).group = .noOp ↔
    w.opcode.toNat ∈ [0, 6, 7, 16, 17, 18, 19, 20, 21, 22, 23, 34, 35, 36, 37, 38] ∨
    w.opcode.toNat = 5 ∧ w.modifier.toNat ≠ 2 ∨
    w.opcode.toNat = 39 ∧ (w.modifier.toNat = 2 ∨ w.modifier.toNat = 3 ∨ 10 ≤ w.modifier.toNat) ∨
    40 ≤ w.opcode.toNat ∧ w.opcode.toNat ≤ 47 ∧ 6 ≤ w.modifier.toNat ∨
    48 ≤ w.opcode.toNat ∧ w.opcode.toNat ≤ 55 ∧ 4 ≤ w.modifier.toNat) ∧
  (∀ (i : Instr) (s : State), i.group = .noOp → exec i s = .next { s with pc := s.pc + 1 })

/-! ## Faults and completion -/

/-- The order of the checks (60 R343, R344): index, then field specification, then address, for every instruction
that makes the check, also for a jump that is not taken. -/
def Obligations.FaultOrder : Prop :=
  ∀ (i : Instr) (s : State),
    (i.group.computesEA = true → indexOK i.addrField = false → exec i s = .fault (.indexInvalid i.addrField.index)) ∧
    (i.group.checksField = true → indexOK i.addrField = true → fieldOK i.modifier = false →
      exec i s = .fault (.fieldSpecInvalid i.modifier)) ∧
    (i.group.checksField = true → indexOK i.addrField = true → fieldOK i.modifier = true →
      inMemory (eaValue i.addrField s) = false → exec i s = .fault (.memoryOutOfRange (eaValue i.addrField s)))

/-- No instruction raises a fault kind that is not its own (60 R342), and the recorded values are the instruction's. -/
def Obligations.FaultsOnlyFromTheirRaisers : Prop :=
  ∀ (i : Instr) (s : State) (k : Fault), inMemory s.pc = true → exec i s = .fault k →
    i.group.mayRaise s.params k ∧
    (∀ j, k = .indexInvalid j → j = i.addrField.index ∧ 6 < j.toNat) ∧
    (∀ f, k = .fieldSpecInvalid f → f = i.modifier ∧ fieldOK f = false) ∧
    (∀ a, k = .memoryOutOfRange a → a = eaValue i.addrField s ∧ inMemory a = false)

/-- No step is refused: every instruction has its meaning (30 R90, 60 R340). -/
def Obligations.NothingIsRefused : Prop :=
  ∀ (i : Instr) (s : State) (q : Refusal), exec i s ≠ .refused q ∧ step s ≠ .refused q

/-- Every instruction completes in every defined case (70 R379, 60 R342). -/
def Obligations.DefinedCasesComplete : Prop :=
  ∀ (i : Instr) (s : State), inMemory s.pc = true → DefinedCase i s → ∃ t, exec i s = .next t

/-! ## Frames -/

/-- Which registers an instruction may write (10 R33): every other register is unchanged. -/
def Obligations.RegisterFrame : Prop :=
  ∀ (i : Instr) (s t : State) (r : Reg), exec i s = .next t → r ∉ i.group.dests → t.reg r = s.reg r

/-- Memory changes in a store alone, and there in the one word at the effective address (20 R51, R63). -/
def Obligations.MemoryFrame : Prop :=
  ∀ (i : Instr) (s t : State) (b : Nat), exec i s = .next t →
    (i.group.isStore = false → t.mem.read b = s.mem.read b) ∧
    (i.group.isStore = true → (b : Int) ≠ eaValue i.addrField s → t.mem.read b = s.mem.read b)

/-- CI, the status and the parameters: each changed by no instruction but a compare, HLT, none (10 R29, R31). That the
open parameters of 00 R8 stand in State and no instruction writes them is the model's choice (log 32). -/
def Obligations.FlagStatusParamsFrame : Prop :=
  ∀ (i : Instr) (s t : State), exec i s = .next t →
    (i.group.isCompare = false → t.ci = s.ci) ∧ (i.group ≠ .halt → t.status = s.status) ∧ t.params = s.params

/-- The comparison indicator (10 R29): written by compares alone, read by the conditional jumps alone, EQUAL at
construction. That these are the words with C = 39 and F in 4..9 is so under the default OPCODE_MAP, whose numbers are
PRESUMED (log 1). -/
def Obligations.ComparisonIndicator : Prop :=
  (∀ (i : Instr) (s t : State), exec i s = .next t → i.group.isCompare = false → t.ci = s.ci) ∧
  (∀ (i : Instr) (s : State) (c : CI), i.group.readsCI = false →
    exec i (s.setCI c) = mapNext (fun t => if i.group.isCompare = true then t else t.setCI c) (exec i s)) ∧
  (∀ w : Word, (decode w).group.readsCI = true ↔
    w.opcode.toNat = 39 ∧ 4 ≤ w.modifier.toNat ∧ w.modifier.toNat ≤ 9) ∧
  (∀ (p : Params) (r : InitRegs) (pc : Int), (State.construct p r pc).ci = .equal)

/-- The program counter (70 R374): HLT keeps it, a taken jump sets it to the effective address, everything else
falls through to next_pc = pc + 1, which a taken linking jump puts in J. -/
def Obligations.NextPc : Prop :=
  ∀ (i : Instr) (s t : State), exec i s = .next t →
    (i.group = .halt → t.pc = s.pc) ∧
    (i.group ≠ .halt → ¬Taken i.group s → t.pc = s.pc + 1) ∧
    (Taken i.group s → t.pc = eaValue i.addrField s) ∧
    (Taken i.group s → i.group.links = true → inMemory s.pc = true → val t.j = s.pc + 1)

/-- Loads, ENT, ENN never read their old destination, and MUL never reads X, but as an index (40 R102, 42 R130,
46 R262). -/
def Obligations.OldDestinationUnread : Prop :=
  ∀ (i : Instr) (s : State) (r : Reg) (w : Word),
    (i.group = .load r ∨ i.group = .transfer r .ent ∨ i.group = .transfer r .enn ∨
      i.group = .arith .mul ∧ r = .x) →
    indexRegister i.addrField ≠ some r → exec i (s.setReg r w) = exec i s

/-- Addresses have no side effects (20 R64): what does not store leaves memory as it is, a read changes nothing, and
repeating a write leaves the same state. -/
def Obligations.RepeatedAccess : Prop :=
  (∀ (i : Instr) (s t : State), i.group.isStore = false → exec i s = .next t → t.mem = s.mem) ∧
  (∀ (s t : State) (a : Int) (w : Word), memWrite s a w = .ok t → memRead t a = .ok w ∧ memWrite t a w = .ok t) ∧
  (∀ (i : Instr) (s t : State), i.group.isStore = true → exec i s = .next t → exec i (t.setPc s.pc) = .next t)

/-! ## Invariants -/

/-- Every step keeps the memory in its canonical form. -/
def Obligations.StepKeepsCanonicalMemory : Prop :=
  ∀ s t : State, CanonicalMemory s → step s = .next t → CanonicalMemory t

/-- Every step keeps the pc inside the reach of an effective address (10 R30, 20 R61). -/
def Obligations.StepKeepsPcInReach : Prop :=
  ∀ s t : State, PcInReach s → step s = .next t → PcInReach t

/-- Every step keeps J a non-negative word of at most 4000 (43 R159, 44 R171). -/
def Obligations.StepKeepsLinkInRange : Prop :=
  ∀ s t : State, LinkInRange s → step s = .next t → LinkInRange t

/-- The three invariants hold after reset (with the model's reset values of J and pc, logs 11 and 12). -/
def Obligations.ResetMeetsInvariants : Prop :=
  CanonicalMemory State.reset ∧ PcInReach State.reset ∧ LinkInRange State.reset

/-- Only HLT leaves RUNNING in a step that completes (10 R31, 41 R120), and no step changes the parameters: that the
open parameters of 00 R8 stand in State and no step writes them is the model's choice (log 32). -/
def Obligations.StatusTransitions : Prop :=
  ∀ s t : State, s.status = .running → step s = .next t →
    t.params = s.params ∧
    (t.status = .halted ↔ (instrAtPc s).group = .halt) ∧
    (t.status = .running ↔ (instrAtPc s).group ≠ .halt)

/-! ## Steps and runs -/

/-- A step runs the instruction that the word at the pc decodes to (70 R375, R376): by `decode` under the default
opcode map, by `decodeIn` under every map. -/
def Obligations.StepRunsDecoded : Prop :=
  ∀ (s : State) (i : Instr), s.status = .running → inMemory s.pc = true →
    (s.params.opcodeMap = .default → decode (s.mem.read s.pc.toNat) = i → step s = exec i s) ∧
    (decodeIn s.params.opcodeMap (s.mem.read s.pc.toNat) = i → step s = exec i s)

/-- A pc outside memory faults at the fetch (70 R375). -/
def Obligations.FetchOutsideFaults : Prop :=
  ∀ s : State, s.status = .running → s.pc < 0 ∨ 3999 < s.pc → step s = .fault (.fetchOutOfRange s.pc)

/-- A stopped machine executes nothing (10 R31). That a step from HALTED answers the same state and a step from
FAULTED the same fault is the model's convention (logs 23, 24). -/
def Obligations.StoppedMachineStays : Prop :=
  ∀ s : State, (s.status = .halted → step s = .next s) ∧ (∀ k, s.status = .faulted k → step s = .fault k)

/-- A store into the next instruction's address is seen by its fetch (20 R69), decoded under the opcode map that the
store, like every step, leaves (log 32). -/
def Obligations.StoreSeenByNextFetch : Prop :=
  ∀ (i : Instr) (src : StoreSrc) (s t : State), i.group = .store src → s.status = .running → exec i s = .next t →
    eaValue i.addrField s = s.pc + 1 →
    step t =
      exec (decodeIn s.params.opcodeMap (setField (s.mem.read (s.pc + 1).toNat) i.modifier (src.word s))) t

/-- A taken linking jump to an address outside memory completes with J written; the next fetch faults (60 R342,
44 R171). -/
def Obligations.JumpOutsideFaultsAtNextFetch : Prop :=
  ∀ (i : Instr) (s : State), s.status = .running → inMemory s.pc = true → i.group.links = true → Taken i.group s →
    indexOK i.addrField = true → inMemory (eaValue i.addrField s) = false →
    ∃ t, exec i s = .next t ∧ val t.j = s.pc + 1 ∧ t.pc = eaValue i.addrField s ∧
      step t = .fault (.fetchOutOfRange (eaValue i.addrField s))

/-- Every normal end of a run stands at an HLT, inside memory, with status HALTED (70 R377, 41 R120). -/
def Obligations.NormalEndStandsAtHalt : Prop :=
  ∀ (n : Nat) (s t : State), run n s = .halted t →
    t.status = .halted ∧ inMemory t.pc = true ∧ (instrAtPc t).group = .halt

/-- A faulted end is the state the faulting step found, with the status changed and nothing else (60 R341). -/
def Obligations.FaultedEndIsPrecise : Prop :=
  ∀ (n : Nat) (s t : State) (k : Fault), run n s = .faulted k t →
    ∃ (j : Nat) (u : State), j < n ∧ Host.Core.run core j s.start = .next u ∧ step u = .fault k ∧
      t = { u with status := .faulted k }

/-- A larger budget changes nothing about a run that ended (70 R377, R378). -/
def Obligations.LargerBudgetSameEnd : Prop :=
  ∀ (n k : Nat) (s : State), (∀ t, run n s ≠ .budgetSpent t) → run (n + k) s = run n s

/-- A run ends halted, faulted or with its budget spent, never refused (70 R377, R378). -/
def Obligations.RunEndsInThreeWays : Prop :=
  ∀ (n : Nat) (s : State), (∃ t, run n s = .halted t) ∨ (∃ k t, run n s = .faulted k t) ∨
    (∃ t, run n s = .budgetSpent t ∧ t.status = .running ∧ Host.Core.run core n s.start = .next t)

/-! ## The units against the machine -/

/-- The jump decoder unit's verdict is what the machine does (44 R170, 45 R200; the ports are the spec's own decision
D16). The unit and `decode` both read default numbers (logs 1, 16). -/
def Obligations.JumpDecoderAgrees : Prop :=
  ∀ (w : Word) (s : State) (v : SignZero) (d : JumpVerdict),
    JD w.opcode w.modifier s.ci v = some d → inMemory s.pc = true → indexOK w.addrField = true →
    (∀ r, (decode w).group.testedReg = some r → v = signZero (val (s.reg r))) →
    (d.kind = .nop ↔ (decode w).group = .noOp) ∧
    (d.taken = true → ∃ t, exec (decode w) s = .next t ∧ t.pc = eaValue w.addrField s ∧
      (d.link = true → IsWordOf t.j (s.pc + 1) false) ∧ (d.link = false → t.j = s.j)) ∧
    (d.taken = false → exec (decode w) s = .next { s with pc := s.pc + 1 })

/-- The arithmetic unit's answer is what the machine writes, or the fault it raises (40 R105, decision D16). -/
def Obligations.ArithmeticUnitAgrees : Prop :=
  ∀ (i : Instr) (op : AuOp) (s : State), i.group = .arith op → OperandReady i.addrField i.modifier s →
    (∀ a x, AU op s.params s.a s.x (operandWord i.addrField i.modifier s) = .ok (a, x) →
      exec i s = .next { s with a := a, x := x, pc := s.pc + 1 } ∧ (op = .add ∨ op = .sub → x = s.x)) ∧
    (∀ k, AU op s.params s.a s.x (operandWord i.addrField i.modifier s) = .error k → exec i s = .fault k)

/-! ## Reset -/

/-- The state after reset (10 R34). Memory +0 and CI EQUAL are the source's; the registers, the pc and the parameters
are the spec's defaults, the model's choice of logs 1 and 8 to 12; that the status is RUNNING before run() is log 34. -/
def Obligations.ResetState : Prop :=
  (∀ a, State.reset.mem.read a = Word.plusZero) ∧ State.reset.ci = .equal ∧ State.reset.status = .running ∧
  (∀ r, State.reset.reg r = Word.plusZero) ∧ State.reset.pc = 0 ∧
  State.reset.params = ⟨.truncate, .positive, .signOfA, .default⟩ ∧
  (∀ (p : Params) (r : InitRegs) (pc : Int) (a : Nat), (State.construct p r pc).mem.read a = Word.plusZero)

/-- The host's placed word is what the next step runs (70 R370, R372; the construction is the model's, log 27). -/
def Obligations.PlacedWordRuns : Prop :=
  ∀ (s : State) (nbits w : Nat),
    step (s.withFetchWord nbits w) =
      exec (decodeIn s.params.opcodeMap (Word.unpack (w % 2 ^ nbits))) (s.withFetchWord nbits w) ∧
    (∀ i, s.params.opcodeMap = .default → decodeTableWord nbits w = some i → step (s.withFetchWord nbits w) = exec i (s.withFetchWord nbits w)) ∧
    (∀ r, (s.withFetchWord nbits w).reg r = s.reg r)

/-! ## HALTED -/

/-- Every step keeps a halted machine at an HLT inside memory (41 R120, 70 R377). That a step from HALTED answers the
same state is the model's convention (log 23). -/
def Obligations.StepKeepsHaltedAtHlt : Prop :=
  ∀ s t : State, HaltedAtHlt s → step s = .next t → HaltedAtHlt t

/-- The invariant of StepKeepsHaltedAtHlt holds of every constructed machine, which is RUNNING (log 34). -/
def Obligations.ConstructedNotHalted : Prop :=
  ∀ (p : Params) (r : InitRegs) (pc : Int), HaltedAtHlt (State.construct p r pc) ∧
    (State.construct p r pc).status = .running
end

