-- ==== Sys2Proof/Laws/Decode.lean ====
section
/-! SUPPORT. The decoder on an encoded word: the accessors of 00 R13, and one lemma for each shared opcode. -/

namespace Sys2Proof

variable (c : Byte) (f : FieldSpec) (m : AddrField)

theorem opcode_instrOf : (instrOf c f m).opcode = c := rfl
theorem modifier_instrOf : (instrOf c f m).modifier = f := rfl

/-- The address operand survives the encoding. -/
theorem addrField_instrOf : (instrOf c f m).addrField = m := by
  obtain ⟨n, g, x⟩ := m
  have := g.isLt
  simp only [Word.addrField, Word.addrMag, Word.indexField, instrOf, AddrField.mk.injEq, true_and, and_true,
    BitVec.toNat_eq, BitVec.toNat_ofNat]
  omega

/-! ## The shared opcodes -/

theorem decode_op5 : decode (instrOf 5 f m) = decodeSpecial m f := by
  rw [show decode (instrOf 5 f m) = decodeSpecial (instrOf 5 f m).addrField f from rfl, addrField_instrOf]

theorem decode_op39 : decode (instrOf 39 f m) = decodeJump m f := by
  rw [show decode (instrOf 39 f m) = decodeJump (instrOf 39 f m).addrField f from rfl, addrField_instrOf]

theorem decode_op40 : decode (instrOf 40 f m) = decodeJumpA m f := by
  rw [show decode (instrOf 40 f m) = decodeJumpA (instrOf 40 f m).addrField f from rfl, addrField_instrOf]

theorem decode_op41 : decode (instrOf 41 f m) = decodeJumpI1 m f := by
  rw [show decode (instrOf 41 f m) = decodeJumpI1 (instrOf 41 f m).addrField f from rfl, addrField_instrOf]

theorem decode_op42 : decode (instrOf 42 f m) = decodeJumpI2 m f := by
  rw [show decode (instrOf 42 f m) = decodeJumpI2 (instrOf 42 f m).addrField f from rfl, addrField_instrOf]

theorem decode_op43 : decode (instrOf 43 f m) = decodeJumpI3 m f := by
  rw [show decode (instrOf 43 f m) = decodeJumpI3 (instrOf 43 f m).addrField f from rfl, addrField_instrOf]

theorem decode_op44 : decode (instrOf 44 f m) = decodeJumpI4 m f := by
  rw [show decode (instrOf 44 f m) = decodeJumpI4 (instrOf 44 f m).addrField f from rfl, addrField_instrOf]

theorem decode_op45 : decode (instrOf 45 f m) = decodeJumpI5 m f := by
  rw [show decode (instrOf 45 f m) = decodeJumpI5 (instrOf 45 f m).addrField f from rfl, addrField_instrOf]

theorem decode_op46 : decode (instrOf 46 f m) = decodeJumpI6 m f := by
  rw [show decode (instrOf 46 f m) = decodeJumpI6 (instrOf 46 f m).addrField f from rfl, addrField_instrOf]

theorem decode_op47 : decode (instrOf 47 f m) = decodeJumpX m f := by
  rw [show decode (instrOf 47 f m) = decodeJumpX (instrOf 47 f m).addrField f from rfl, addrField_instrOf]

theorem decode_op48 : decode (instrOf 48 f m) = decodeTransferA m f := by
  rw [show decode (instrOf 48 f m) = decodeTransferA (instrOf 48 f m).addrField f from rfl, addrField_instrOf]

theorem decode_op49 : decode (instrOf 49 f m) = decodeTransferI1 m f := by
  rw [show decode (instrOf 49 f m) = decodeTransferI1 (instrOf 49 f m).addrField f from rfl, addrField_instrOf]

theorem decode_op50 : decode (instrOf 50 f m) = decodeTransferI2 m f := by
  rw [show decode (instrOf 50 f m) = decodeTransferI2 (instrOf 50 f m).addrField f from rfl, addrField_instrOf]

theorem decode_op51 : decode (instrOf 51 f m) = decodeTransferI3 m f := by
  rw [show decode (instrOf 51 f m) = decodeTransferI3 (instrOf 51 f m).addrField f from rfl, addrField_instrOf]

theorem decode_op52 : decode (instrOf 52 f m) = decodeTransferI4 m f := by
  rw [show decode (instrOf 52 f m) = decodeTransferI4 (instrOf 52 f m).addrField f from rfl, addrField_instrOf]

theorem decode_op53 : decode (instrOf 53 f m) = decodeTransferI5 m f := by
  rw [show decode (instrOf 53 f m) = decodeTransferI5 (instrOf 53 f m).addrField f from rfl, addrField_instrOf]

theorem decode_op54 : decode (instrOf 54 f m) = decodeTransferI6 m f := by
  rw [show decode (instrOf 54 f m) = decodeTransferI6 (instrOf 54 f m).addrField f from rfl, addrField_instrOf]

theorem decode_op55 : decode (instrOf 55 f m) = decodeTransferX m f := by
  rw [show decode (instrOf 55 f m) = decodeTransferX (instrOf 55 f m).addrField f from rfl, addrField_instrOf]

/-! ## A modifier that no row of the opcode claims gives the no-op word -/

theorem decode_nopOp5 (h : unlistedSpecial f = true) : decode (encode (.nopOp5 m f)) = .nopOp5 m f := by
  rw [show encode (.nopOp5 m f) = instrOf 5 f m from rfl, decode_op5]
  unfold decodeSpecial
  simp only [unlistedSpecial, bne_iff_ne] at h
  split <;> first | rfl | omega

theorem decode_nopOp39 (h : unlistedJump f = true) : decode (encode (.nopOp39 m f)) = .nopOp39 m f := by
  rw [show encode (.nopOp39 m f) = instrOf 39 f m from rfl, decode_op39]
  unfold decodeJump
  simp only [unlistedJump, decide_eq_true_eq, Bool.or_eq_true, beq_iff_eq] at h
  split <;> first | rfl | omega

theorem decode_nopOp40 (h : unlistedJumpReg f = true) : decode (encode (.nopOp40 m f)) = .nopOp40 m f := by
  rw [show encode (.nopOp40 m f) = instrOf 40 f m from rfl, decode_op40]
  unfold decodeJumpA
  simp only [unlistedJumpReg, decide_eq_true_eq] at h
  split <;> first | rfl | omega

theorem decode_nopOp41 (h : unlistedJumpReg f = true) : decode (encode (.nopOp41 m f)) = .nopOp41 m f := by
  rw [show encode (.nopOp41 m f) = instrOf 41 f m from rfl, decode_op41]
  unfold decodeJumpI1
  simp only [unlistedJumpReg, decide_eq_true_eq] at h
  split <;> first | rfl | omega

theorem decode_nopOp42 (h : unlistedJumpReg f = true) : decode (encode (.nopOp42 m f)) = .nopOp42 m f := by
  rw [show encode (.nopOp42 m f) = instrOf 42 f m from rfl, decode_op42]
  unfold decodeJumpI2
  simp only [unlistedJumpReg, decide_eq_true_eq] at h
  split <;> first | rfl | omega

theorem decode_nopOp43 (h : unlistedJumpReg f = true) : decode (encode (.nopOp43 m f)) = .nopOp43 m f := by
  rw [show encode (.nopOp43 m f) = instrOf 43 f m from rfl, decode_op43]
  unfold decodeJumpI3
  simp only [unlistedJumpReg, decide_eq_true_eq] at h
  split <;> first | rfl | omega

theorem decode_nopOp44 (h : unlistedJumpReg f = true) : decode (encode (.nopOp44 m f)) = .nopOp44 m f := by
  rw [show encode (.nopOp44 m f) = instrOf 44 f m from rfl, decode_op44]
  unfold decodeJumpI4
  simp only [unlistedJumpReg, decide_eq_true_eq] at h
  split <;> first | rfl | omega

theorem decode_nopOp45 (h : unlistedJumpReg f = true) : decode (encode (.nopOp45 m f)) = .nopOp45 m f := by
  rw [show encode (.nopOp45 m f) = instrOf 45 f m from rfl, decode_op45]
  unfold decodeJumpI5
  simp only [unlistedJumpReg, decide_eq_true_eq] at h
  split <;> first | rfl | omega

theorem decode_nopOp46 (h : unlistedJumpReg f = true) : decode (encode (.nopOp46 m f)) = .nopOp46 m f := by
  rw [show encode (.nopOp46 m f) = instrOf 46 f m from rfl, decode_op46]
  unfold decodeJumpI6
  simp only [unlistedJumpReg, decide_eq_true_eq] at h
  split <;> first | rfl | omega

theorem decode_nopOp47 (h : unlistedJumpReg f = true) : decode (encode (.nopOp47 m f)) = .nopOp47 m f := by
  rw [show encode (.nopOp47 m f) = instrOf 47 f m from rfl, decode_op47]
  unfold decodeJumpX
  simp only [unlistedJumpReg, decide_eq_true_eq] at h
  split <;> first | rfl | omega

theorem decode_nopOp48 (h : unlistedAddr f = true) : decode (encode (.nopOp48 m f)) = .nopOp48 m f := by
  rw [show encode (.nopOp48 m f) = instrOf 48 f m from rfl, decode_op48]
  unfold decodeTransferA
  simp only [unlistedAddr, decide_eq_true_eq] at h
  split <;> first | rfl | omega

theorem decode_nopOp49 (h : unlistedAddr f = true) : decode (encode (.nopOp49 m f)) = .nopOp49 m f := by
  rw [show encode (.nopOp49 m f) = instrOf 49 f m from rfl, decode_op49]
  unfold decodeTransferI1
  simp only [unlistedAddr, decide_eq_true_eq] at h
  split <;> first | rfl | omega

theorem decode_nopOp50 (h : unlistedAddr f = true) : decode (encode (.nopOp50 m f)) = .nopOp50 m f := by
  rw [show encode (.nopOp50 m f) = instrOf 50 f m from rfl, decode_op50]
  unfold decodeTransferI2
  simp only [unlistedAddr, decide_eq_true_eq] at h
  split <;> first | rfl | omega

theorem decode_nopOp51 (h : unlistedAddr f = true) : decode (encode (.nopOp51 m f)) = .nopOp51 m f := by
  rw [show encode (.nopOp51 m f) = instrOf 51 f m from rfl, decode_op51]
  unfold decodeTransferI3
  simp only [unlistedAddr, decide_eq_true_eq] at h
  split <;> first | rfl | omega

theorem decode_nopOp52 (h : unlistedAddr f = true) : decode (encode (.nopOp52 m f)) = .nopOp52 m f := by
  rw [show encode (.nopOp52 m f) = instrOf 52 f m from rfl, decode_op52]
  unfold decodeTransferI4
  simp only [unlistedAddr, decide_eq_true_eq] at h
  split <;> first | rfl | omega

theorem decode_nopOp53 (h : unlistedAddr f = true) : decode (encode (.nopOp53 m f)) = .nopOp53 m f := by
  rw [show encode (.nopOp53 m f) = instrOf 53 f m from rfl, decode_op53]
  unfold decodeTransferI5
  simp only [unlistedAddr, decide_eq_true_eq] at h
  split <;> first | rfl | omega

theorem decode_nopOp54 (h : unlistedAddr f = true) : decode (encode (.nopOp54 m f)) = .nopOp54 m f := by
  rw [show encode (.nopOp54 m f) = instrOf 54 f m from rfl, decode_op54]
  unfold decodeTransferI6
  simp only [unlistedAddr, decide_eq_true_eq] at h
  split <;> first | rfl | omega

theorem decode_nopOp55 (h : unlistedAddr f = true) : decode (encode (.nopOp55 m f)) = .nopOp55 m f := by
  rw [show encode (.nopOp55 m f) = instrOf 55 f m from rfl, decode_op55]
  unfold decodeTransferX
  simp only [unlistedAddr, decide_eq_true_eq] at h
  split <;> first | rfl | omega

end Sys2Proof
end

