-- ==== Sys2Proof/Laws/State.lean ====
section
/-! SUPPORT. One lemma per field per update of State, and what the register accessors do. -/

namespace Sys2Proof.Machine

variable (s : State)

@[simp] theorem State.setCI_a (c : CI) : (s.setCI c).a = s.a := rfl
@[simp] theorem State.setCI_x (c : CI) : (s.setCI c).x = s.x := rfl
@[simp] theorem State.setCI_i1 (c : CI) : (s.setCI c).i1 = s.i1 := rfl
@[simp] theorem State.setCI_i2 (c : CI) : (s.setCI c).i2 = s.i2 := rfl
@[simp] theorem State.setCI_i3 (c : CI) : (s.setCI c).i3 = s.i3 := rfl
@[simp] theorem State.setCI_i4 (c : CI) : (s.setCI c).i4 = s.i4 := rfl
@[simp] theorem State.setCI_i5 (c : CI) : (s.setCI c).i5 = s.i5 := rfl
@[simp] theorem State.setCI_i6 (c : CI) : (s.setCI c).i6 = s.i6 := rfl
@[simp] theorem State.setCI_j (c : CI) : (s.setCI c).j = s.j := rfl
@[simp] theorem State.setCI_ci (c : CI) : (s.setCI c).ci = c := rfl
@[simp] theorem State.setCI_pc (c : CI) : (s.setCI c).pc = s.pc := rfl
@[simp] theorem State.setCI_mem (c : CI) : (s.setCI c).mem = s.mem := rfl
@[simp] theorem State.setCI_status (c : CI) : (s.setCI c).status = s.status := rfl
@[simp] theorem State.setCI_params (c : CI) : (s.setCI c).params = s.params := rfl

@[simp] theorem State.setPc_a (t : Int) : (s.setPc t).a = s.a := rfl
@[simp] theorem State.setPc_x (t : Int) : (s.setPc t).x = s.x := rfl
@[simp] theorem State.setPc_i1 (t : Int) : (s.setPc t).i1 = s.i1 := rfl
@[simp] theorem State.setPc_i2 (t : Int) : (s.setPc t).i2 = s.i2 := rfl
@[simp] theorem State.setPc_i3 (t : Int) : (s.setPc t).i3 = s.i3 := rfl
@[simp] theorem State.setPc_i4 (t : Int) : (s.setPc t).i4 = s.i4 := rfl
@[simp] theorem State.setPc_i5 (t : Int) : (s.setPc t).i5 = s.i5 := rfl
@[simp] theorem State.setPc_i6 (t : Int) : (s.setPc t).i6 = s.i6 := rfl
@[simp] theorem State.setPc_j (t : Int) : (s.setPc t).j = s.j := rfl
@[simp] theorem State.setPc_ci (t : Int) : (s.setPc t).ci = s.ci := rfl
@[simp] theorem State.setPc_pc (t : Int) : (s.setPc t).pc = t := rfl
@[simp] theorem State.setPc_mem (t : Int) : (s.setPc t).mem = s.mem := rfl
@[simp] theorem State.setPc_status (t : Int) : (s.setPc t).status = s.status := rfl
@[simp] theorem State.setPc_params (t : Int) : (s.setPc t).params = s.params := rfl

@[simp] theorem State.setMem_a (m : Memory) : (s.setMem m).a = s.a := rfl
@[simp] theorem State.setMem_x (m : Memory) : (s.setMem m).x = s.x := rfl
@[simp] theorem State.setMem_i1 (m : Memory) : (s.setMem m).i1 = s.i1 := rfl
@[simp] theorem State.setMem_i2 (m : Memory) : (s.setMem m).i2 = s.i2 := rfl
@[simp] theorem State.setMem_i3 (m : Memory) : (s.setMem m).i3 = s.i3 := rfl
@[simp] theorem State.setMem_i4 (m : Memory) : (s.setMem m).i4 = s.i4 := rfl
@[simp] theorem State.setMem_i5 (m : Memory) : (s.setMem m).i5 = s.i5 := rfl
@[simp] theorem State.setMem_i6 (m : Memory) : (s.setMem m).i6 = s.i6 := rfl
@[simp] theorem State.setMem_j (m : Memory) : (s.setMem m).j = s.j := rfl
@[simp] theorem State.setMem_ci (m : Memory) : (s.setMem m).ci = s.ci := rfl
@[simp] theorem State.setMem_pc (m : Memory) : (s.setMem m).pc = s.pc := rfl
@[simp] theorem State.setMem_mem (m : Memory) : (s.setMem m).mem = m := rfl
@[simp] theorem State.setMem_status (m : Memory) : (s.setMem m).status = s.status := rfl
@[simp] theorem State.setMem_params (m : Memory) : (s.setMem m).params = s.params := rfl

@[simp] theorem State.setStatus_a (t : Status) : (s.setStatus t).a = s.a := rfl
@[simp] theorem State.setStatus_x (t : Status) : (s.setStatus t).x = s.x := rfl
@[simp] theorem State.setStatus_i1 (t : Status) : (s.setStatus t).i1 = s.i1 := rfl
@[simp] theorem State.setStatus_i2 (t : Status) : (s.setStatus t).i2 = s.i2 := rfl
@[simp] theorem State.setStatus_i3 (t : Status) : (s.setStatus t).i3 = s.i3 := rfl
@[simp] theorem State.setStatus_i4 (t : Status) : (s.setStatus t).i4 = s.i4 := rfl
@[simp] theorem State.setStatus_i5 (t : Status) : (s.setStatus t).i5 = s.i5 := rfl
@[simp] theorem State.setStatus_i6 (t : Status) : (s.setStatus t).i6 = s.i6 := rfl
@[simp] theorem State.setStatus_j (t : Status) : (s.setStatus t).j = s.j := rfl
@[simp] theorem State.setStatus_ci (t : Status) : (s.setStatus t).ci = s.ci := rfl
@[simp] theorem State.setStatus_pc (t : Status) : (s.setStatus t).pc = s.pc := rfl
@[simp] theorem State.setStatus_mem (t : Status) : (s.setStatus t).mem = s.mem := rfl
@[simp] theorem State.setStatus_status (t : Status) : (s.setStatus t).status = t := rfl
@[simp] theorem State.setStatus_params (t : Status) : (s.setStatus t).params = s.params := rfl

@[simp] theorem State.setReg_ci (r : Reg) (w : Word) : (s.setReg r w).ci = s.ci := by cases r <;> rfl
@[simp] theorem State.setReg_pc (r : Reg) (w : Word) : (s.setReg r w).pc = s.pc := by cases r <;> rfl
@[simp] theorem State.setReg_mem (r : Reg) (w : Word) : (s.setReg r w).mem = s.mem := by cases r <;> rfl
@[simp] theorem State.setReg_status (r : Reg) (w : Word) : (s.setReg r w).status = s.status := by cases r <;> rfl
@[simp] theorem State.setReg_params (r : Reg) (w : Word) : (s.setReg r w).params = s.params := by cases r <;> rfl

@[simp] theorem State.reg_a : s.reg .a = s.a := rfl
@[simp] theorem State.reg_x : s.reg .x = s.x := rfl
@[simp] theorem State.reg_i1 : s.reg .i1 = s.i1 := rfl
@[simp] theorem State.reg_i2 : s.reg .i2 = s.i2 := rfl
@[simp] theorem State.reg_i3 : s.reg .i3 = s.i3 := rfl
@[simp] theorem State.reg_i4 : s.reg .i4 = s.i4 := rfl
@[simp] theorem State.reg_i5 : s.reg .i5 = s.i5 := rfl
@[simp] theorem State.reg_i6 : s.reg .i6 = s.i6 := rfl
@[simp] theorem State.reg_j : s.reg .j = s.j := rfl

@[simp] theorem State.setCI_reg (c : CI) (r : Reg) : (s.setCI c).reg r = s.reg r := by cases r <;> rfl
@[simp] theorem State.setPc_reg (t : Int) (r : Reg) : (s.setPc t).reg r = s.reg r := by cases r <;> rfl
@[simp] theorem State.setMem_reg (m : Memory) (r : Reg) : (s.setMem m).reg r = s.reg r := by cases r <;> rfl
@[simp] theorem State.setStatus_reg (t : Status) (r : Reg) : (s.setStatus t).reg r = s.reg r := by cases r <;> rfl

/-- A register write read back. -/
@[simp] theorem State.reg_setReg_same (r : Reg) (w : Word) : (s.setReg r w).reg r = w := by cases r <;> rfl

/-- A register write leaves the other registers. -/
theorem State.reg_setReg_other (r r' : Reg) (w : Word) (h : r' ≠ r) : (s.setReg r w).reg r' = s.reg r' := by
  cases r <;> cases r' <;> first | rfl | exact absurd rfl h

@[simp] theorem State.setReg_a_eq (w : Word) : (s.setReg .a w).a = w := rfl
@[simp] theorem State.setReg_x_eq (w : Word) : (s.setReg .x w).x = w := rfl
@[simp] theorem State.setReg_i1_eq (w : Word) : (s.setReg .i1 w).i1 = w := rfl
@[simp] theorem State.setReg_i2_eq (w : Word) : (s.setReg .i2 w).i2 = w := rfl
@[simp] theorem State.setReg_i3_eq (w : Word) : (s.setReg .i3 w).i3 = w := rfl
@[simp] theorem State.setReg_i4_eq (w : Word) : (s.setReg .i4 w).i4 = w := rfl
@[simp] theorem State.setReg_i5_eq (w : Word) : (s.setReg .i5 w).i5 = w := rfl
@[simp] theorem State.setReg_i6_eq (w : Word) : (s.setReg .i6 w).i6 = w := rfl
@[simp] theorem State.setReg_j_eq (w : Word) : (s.setReg .j w).j = w := rfl

@[simp] theorem advance_a : (advance s).a = s.a := rfl
@[simp] theorem advance_x : (advance s).x = s.x := rfl
@[simp] theorem advance_i1 : (advance s).i1 = s.i1 := rfl
@[simp] theorem advance_i2 : (advance s).i2 = s.i2 := rfl
@[simp] theorem advance_i3 : (advance s).i3 = s.i3 := rfl
@[simp] theorem advance_i4 : (advance s).i4 = s.i4 := rfl
@[simp] theorem advance_i5 : (advance s).i5 = s.i5 := rfl
@[simp] theorem advance_i6 : (advance s).i6 = s.i6 := rfl
@[simp] theorem advance_j : (advance s).j = s.j := rfl
@[simp] theorem advance_ci : (advance s).ci = s.ci := rfl
@[simp] theorem advance_pc : (advance s).pc = nextPc s := rfl
@[simp] theorem advance_mem : (advance s).mem = s.mem := rfl
@[simp] theorem advance_status : (advance s).status = s.status := rfl
@[simp] theorem advance_params : (advance s).params = s.params := rfl
@[simp] theorem advance_reg (r : Reg) : (advance s).reg r = s.reg r := by cases r <;> rfl

/-- A no-op word advances and does nothing else. -/
theorem noOp_eq : noOp s = { s with pc := s.pc + 1 } := rfl

/-- HLT changes the status alone. -/
theorem halt_eq : halt s = { s with status := .halted } := rfl

/-- A fault changes the status alone. -/
theorem afterFault_eq (k : Fault) : afterFault s k = { s with status := .faulted k } := rfl

/-- Reading registers and memory, two states that agree on every field are the same state. -/
theorem State.ext_reg {s t : State} (hr : ∀ r, s.reg r = t.reg r) (hc : s.ci = t.ci) (hp : s.pc = t.pc)
    (hm : s.mem = t.mem) (hs : s.status = t.status) (hq : s.params = t.params) : s = t := by
  cases s
  cases t
  have h := fun r => hr r
  simp only [State.mk.injEq]
  exact ⟨h .a, h .x, h .i1, h .i2, h .i3, h .i4, h .i5, h .i6, h .j, hc, hp, hm, hs, hq⟩

end Sys2Proof.Machine
end

