-- ==== Sys2Proof/Laws/Memory.lean ====
section
/-! SUPPORT. Memory: reading after writing, and that every operation keeps the canonical form. -/

namespace Sys2Proof.Machine

variable (m : Memory) (a b : Nat) (w : Word)

@[simp] theorem Memory.read_erase_same : (m.erase a).read a = unlistedWord := by
  induction m with
  | nil => rfl
  | cons e rest ih =>
    obtain ⟨c, v⟩ := e
    by_cases h : c = a <;> simp [Memory.erase, Memory.read, h, ih]

theorem Memory.read_erase_other (h : b ≠ a) : (m.erase a).read b = m.read b := by
  induction m with
  | nil => rfl
  | cons e rest ih =>
    obtain ⟨c, v⟩ := e
    by_cases hc : c = a
    · have hb : ¬c = b := fun hcb => h (hcb.symm.trans hc)
      simp [Memory.erase, Memory.read, hc, ih, Ne.symm h]
    · simp [Memory.erase, Memory.read, hc, ih]

theorem Memory.read_insert_same (h : ∀ e ∈ m, e.1 ≠ a) : (m.insert a w).read a = w := by
  induction m with
  | nil => simp [Memory.insert, Memory.read]
  | cons e rest ih =>
    obtain ⟨c, v⟩ := e
    have hc : c ≠ a := h (c, v) (by simp)
    unfold Memory.insert
    split
    · simp [Memory.read]
    · simp only [Memory.read, hc, if_false]
      exact ih fun e he => h e (by simp [he])

theorem Memory.read_insert_other (h : b ≠ a) : (m.insert a w).read b = m.read b := by
  induction m with
  | nil => simp [Memory.insert, Memory.read, Ne.symm h]
  | cons e rest ih =>
    obtain ⟨c, v⟩ := e
    unfold Memory.insert
    split
    · simp [Memory.read, Ne.symm h]
    · simp [Memory.read, ih]

theorem Memory.erase_keys : ∀ e ∈ m.erase a, e.1 ≠ a := by
  induction m with
  | nil => simp [Memory.erase]
  | cons e rest ih =>
    obtain ⟨c, v⟩ := e
    unfold Memory.erase
    split
    · exact ih
    · rename_i hc
      intro e he
      rcases List.mem_cons.mp he with rfl | he
      · exact hc
      · exact ih e he

/-- A write is read back, whatever the memory. -/
@[simp] theorem Memory.read_write_same : (m.write a w).read a = w := by
  unfold Memory.write
  split
  · rename_i h; simp [h]
  · exact Memory.read_insert_same _ _ _ (Memory.erase_keys m a)

/-- A write leaves every other address, whatever the memory. -/
theorem Memory.read_write_other (h : b ≠ a) : (m.write a w).read b = m.read b := by
  unfold Memory.write
  split
  · exact Memory.read_erase_other m a b h
  · rw [Memory.read_insert_other _ _ _ _ h, Memory.read_erase_other m a b h]

theorem Memory.erase_of_keys (h : ∀ e ∈ m, e.1 ≠ a) : m.erase a = m := by
  induction m with
  | nil => rfl
  | cons e rest ih =>
    obtain ⟨c, v⟩ := e
    have hc : c ≠ a := h (c, v) (by simp)
    simp [Memory.erase, hc, ih fun e he => h e (by simp [he])]

theorem Memory.erase_insert (h : ∀ e ∈ m, e.1 ≠ a) : (m.insert a w).erase a = m := by
  induction m with
  | nil => simp [Memory.insert, Memory.erase]
  | cons e rest ih =>
    obtain ⟨c, v⟩ := e
    have hc : c ≠ a := h (c, v) (by simp)
    have hr : ∀ e ∈ rest, e.1 ≠ a := fun e he => h e (by simp [he])
    unfold Memory.insert
    split
    · simp [Memory.erase, hc, Memory.erase_of_keys rest a hr]
    · simp [Memory.erase, hc, ih hr]

/-- The second of two writes to one address stands. -/
theorem Memory.write_write (v : Word) : (m.write a v).write a w = m.write a w := by
  have hk := Memory.erase_keys m a
  have h : (m.write a v).erase a = m.erase a := by
    unfold Memory.write
    split
    · exact Memory.erase_of_keys _ _ hk
    · exact Memory.erase_insert _ _ _ hk
  rw [Memory.write, h, ← Memory.write]

theorem Memory.wfFrom_mono {lo lo' : Nat} (hl : lo' ≤ lo) (h : m.wfFrom lo = true) : m.wfFrom lo' = true := by
  cases m with
  | nil => rfl
  | cons e rest =>
    obtain ⟨c, v⟩ := e
    simp only [Memory.wfFrom, Bool.and_eq_true, decide_eq_true_eq] at h ⊢
    exact ⟨⟨⟨by omega, h.1.1.2⟩, h.1.2⟩, h.2⟩

theorem Memory.wfFrom_erase {lo : Nat} (h : m.wfFrom lo = true) : (m.erase a).wfFrom lo = true := by
  induction m generalizing lo with
  | nil => rfl
  | cons e rest ih =>
    obtain ⟨c, v⟩ := e
    simp only [Memory.wfFrom, Bool.and_eq_true, decide_eq_true_eq] at h
    unfold Memory.erase
    split
    · exact Memory.wfFrom_mono _ (by omega) (ih h.2)
    · simp only [Memory.wfFrom, Bool.and_eq_true, decide_eq_true_eq]
      exact ⟨h.1, ih h.2⟩

theorem Memory.wfFrom_insert {lo : Nat} (h : m.wfFrom lo = true) (hk : ∀ e ∈ m, e.1 ≠ a) (hlo : lo ≤ a)
    (ha : a ≤ 3999) (hw : w ≠ unlistedWord) : (m.insert a w).wfFrom lo = true := by
  induction m generalizing lo with
  | nil => simp [Memory.insert, Memory.wfFrom, hlo, ha, hw]
  | cons e rest ih =>
    obtain ⟨c, v⟩ := e
    have hc : c ≠ a := hk (c, v) (by simp)
    simp only [Memory.wfFrom, Bool.and_eq_true, decide_eq_true_eq] at h
    unfold Memory.insert
    split
    · simp only [Memory.wfFrom, Bool.and_eq_true, decide_eq_true_eq]
      exact ⟨⟨⟨hlo, ha⟩, hw⟩, ⟨⟨by omega, h.1.1.2⟩, h.1.2⟩, h.2⟩
    · simp only [Memory.wfFrom, Bool.and_eq_true, decide_eq_true_eq]
      exact ⟨h.1, ih h.2 (fun e he => hk e (by simp [he])) (by omega)⟩

/-- A write inside the address space keeps the canonical form. -/
theorem Memory.wf_write (h : m.wf = true) (ha : a ≤ 3999) : (m.write a w).wf = true := by
  unfold Memory.wf Memory.write at *
  split
  · exact Memory.wfFrom_erase m a h
  · rename_i hw
    exact Memory.wfFrom_insert _ a w (Memory.wfFrom_erase m a h) (Memory.erase_keys m a) (Nat.zero_le _) ha hw

theorem inMemory_iff {a : Int} : inMemory a ↔ 0 ≤ a ∧ a ≤ 3999 := by simp [inMemory]

/-- A memory write keeps the canonical form. -/
theorem memWrite_wf {s t : State} {a : Int} {w : Word} (h : s.mem.wf = true) (ht : memWrite s a w = .ok t) :
    t.mem.wf = true := by
  unfold memWrite at ht
  split at ht
  · rename_i ha
    cases ht
    exact Memory.wf_write _ _ _ h (by rw [inMemory_iff] at ha; omega)
  · cases ht

/-- The host's store keeps the canonical form. -/
theorem hostStore_wf {s : State} (h : s.mem.wf = true) : (hostStore s a w).mem.wf = true := by
  unfold hostStore
  split
  · rename_i ha; exact Memory.wf_write _ _ _ h ha
  · exact h

/-- What MemRead can do. -/
theorem memRead_ok {s : State} {a : Int} {w : Word} :
    memRead s a = .ok w ↔ inMemory a ∧ w = s.mem.read a.toNat := by
  unfold memRead
  split
  · rename_i h
    exact ⟨fun e => ⟨h, (Except.ok.inj e).symm⟩, fun e => congrArg _ e.2.symm⟩
  · rename_i h
    simp [h]

/-- What MemWrite can do. -/
theorem memWrite_ok {s t : State} {a : Int} {w : Word} :
    memWrite s a w = .ok t ↔ inMemory a ∧ t = s.setMem (s.mem.write a.toNat w) := by
  unfold memWrite
  split
  · rename_i h
    exact ⟨fun e => ⟨h, (Except.ok.inj e).symm⟩, fun e => congrArg _ e.2.symm⟩
  · rename_i h
    simp [h]

/-- What Fetch can do. -/
theorem fetch_ok {s : State} {w : Word} : fetch s = .ok w ↔ inMemory s.pc ∧ w = s.mem.read s.pc.toNat := by
  unfold fetch
  split
  · rename_i h
    exact ⟨fun e => ⟨h, (Except.ok.inj e).symm⟩, fun e => congrArg _ e.2.symm⟩
  · rename_i h
    simp [h]

/-- A read outside memory faults with the address. -/
theorem memRead_error {s : State} {a : Int} (h : ¬inMemory a) : memRead s a = .error (.memoryOutOfRange a) := by
  simp [memRead, h]

/-- A fetch outside memory faults with the pc. -/
theorem fetch_error {s : State} (h : ¬inMemory s.pc) : fetch s = .error (.fetchOutOfRange s.pc) := by
  simp [fetch, h]

end Sys2Proof.Machine
end

