-- ==== Sys2Proof/Laws/Words.lean ====
section
/-! SUPPORT. Words and integers: magnitudes, values, WordOf and ZWordOf (10 R24 to R26). -/

namespace Sys2Proof.Machine

theorem mag_lt (w : Word) : mag w < 2 ^ 30 := by
  have h0 := w.b0.isLt
  have h1 := w.b1.isLt
  have h2 := w.b2.isLt
  have h3 := w.b3.isLt
  have h4 := w.b4.isLt
  unfold mag
  omega

@[simp] theorem mag_wordOfMag (s : Bool) (n : Nat) : mag (wordOfMag s n) = n % 2 ^ 30 := by
  unfold mag wordOfMag
  simp only [BitVec.toNat_ofNat]
  omega

@[simp] theorem wordOfMag_sign (s : Bool) (n : Nat) : (wordOfMag s n).sign = s := rfl

@[simp] theorem mag_zero (s : Bool) : mag (Word.zero s) = 0 := by simp [mag, Word.zero]

@[simp] theorem zero_sign (s : Bool) : (Word.zero s).sign = s := rfl

theorem val_of_sign_false {w : Word} (h : w.sign = false) : val w = mag w := by simp [val, h]

theorem val_of_sign_true {w : Word} (h : w.sign = true) : val w = -(mag w : Int) := by simp [val, h]

@[simp] theorem val_zero (s : Bool) : val (Word.zero s) = 0 := by simp [val]

/-- The magnitude is the value's. -/
theorem natAbs_val (w : Word) : (val w).natAbs = mag w := by
  unfold val
  split <;> simp

theorem val_bounds (w : Word) : -(2 ^ 30 : Int) < val w ∧ val w < 2 ^ 30 := by
  have h := mag_lt w
  have := natAbs_val w
  omega

/-- The word of a sign and a magnitude that fits. -/
theorem val_wordOfMag (v : Int) (h : v.natAbs < 2 ^ 30) : val (wordOfMag (decide (v < 0)) v.natAbs) = v := by
  have hm : mag (wordOfMag (decide (v < 0)) v.natAbs) = v.natAbs := by
    rw [mag_wordOfMag]; exact Nat.mod_eq_of_lt h
  unfold val
  rw [hm, wordOfMag_sign]
  by_cases hv : v < 0
  · simp only [hv, decide_true, if_true]; omega
  · simp only [hv, decide_false, Bool.false_eq_true, if_false]; omega

/-- WordOf of a number that fits: the word with that value, negative exactly when the number is. -/
theorem wordOf_fits {o : ArithOverflow} {v : Int} (h : v.natAbs < 2 ^ 30) :
    wordOf o v = .ok (wordOfMag (decide (v < 0)) v.natAbs) := by simp only [wordOf, h, if_true]

/-- WordOf of a number that does not fit. -/
theorem wordOf_over {o : ArithOverflow} {v : Int} (h : ¬v.natAbs < 2 ^ 30) :
    wordOf o v = if o = .fault then .error .arithmeticOverflow
      else .ok (wordOfMag (decide (v < 0)) (v.natAbs % 2 ^ 30)) := by
  cases o <;> simp only [wordOf, h, if_false, if_true, reduceCtorEq]

/-- WordOf faults only under ARITH_OVERFLOW = fault, on a number that does not fit. -/
theorem wordOf_error {o : ArithOverflow} {v : Int} {k : Fault} :
    wordOf o v = .error k ↔ ¬v.natAbs < 2 ^ 30 ∧ o = .fault ∧ k = .arithmeticOverflow := by
  by_cases h : v.natAbs < 2 ^ 30
  · simp only [wordOf_fits h, h, not_true, false_and, reduceCtorEq]
  · simp only [wordOf_over h, h, not_false_eq_true, true_and]
    cases o <;> simp [eq_comm]

/-- ZWordOf faults exactly where WordOf does: 0 always fits. -/
theorem zWordOf_error {p : Params} {v : Int} {old : Word} {k : Fault} :
    zWordOf p v old = .error k ↔ ¬v.natAbs < 2 ^ 30 ∧ p.arithOverflow = .fault ∧ k = .arithmeticOverflow := by
  unfold zWordOf
  split
  · rename_i h; simp [h.1]
  · exact wordOf_error

/-- ZWordOf of a number that fits. -/
theorem zWordOf_fits {p : Params} {v : Int} (old : Word) (h : v.natAbs < 2 ^ 30) :
    ∃ w, zWordOf p v old = .ok w ∧ val w = v ∧
      w.sign = if v = 0 then (match p.zeroResultSign with | .keep => old.sign | .positive => false)
        else decide (v < 0) := by
  unfold zWordOf
  by_cases hz : v = 0 ∧ p.zeroResultSign = .keep
  · rw [if_pos hz]
    exact ⟨_, rfl, by simp [hz.1], by simp [hz]⟩
  · rw [if_neg hz]
    refine ⟨_, wordOf_fits h, val_wordOfMag v h, ?_⟩
    by_cases hv : v = 0
    · cases hk : p.zeroResultSign with
      | keep => exact absurd ⟨hv, hk⟩ hz
      | positive => simp [hv]
    · simp [hv]

/-- The word ENT and ENN write, where the number fits. -/
theorem enterWord_fits (o : ArithOverflow) {v : Int} (z : Bool) (h : v.natAbs < 2 ^ 30) :
    ∃ w, enterWord o v z = .ok w ∧ val w = v ∧ w.sign = if v = 0 then z else decide (v < 0) := by
  unfold enterWord
  by_cases hv : v = 0
  · exact ⟨_, if_pos hv, by simp [hv], by simp [hv]⟩
  · exact ⟨_, by rw [if_neg hv]; exact wordOf_fits h, val_wordOfMag v h, by simp [hv]⟩

/-- ENT and ENN fault exactly where WordOf does. -/
theorem enterWord_error {o : ArithOverflow} {v : Int} {z : Bool} {k : Fault} :
    enterWord o v z = .error k ↔ ¬v.natAbs < 2 ^ 30 ∧ o = .fault ∧ k = .arithmeticOverflow := by
  unfold enterWord
  split
  · rename_i h; simp [h]
  · exact wordOf_error

/-- Two words of one sign and one magnitude are one word. -/
theorem word_ext_mag {v w : Word} (hs : v.sign = w.sign) (hm : mag v = mag w) : v = w := by
  obtain ⟨s, b4, b3, b2, b1, b0⟩ := v
  obtain ⟨s', c4, c3, c2, c1, c0⟩ := w
  unfold mag at hm
  simp only at hs hm
  have h0 := b0.isLt
  have h1 := b1.isLt
  have h2 := b2.isLt
  have h3 := b3.isLt
  have h4 := b4.isLt
  have k0 := c0.isLt
  have k1 := c1.isLt
  have k2 := c2.isLt
  have k3 := c3.isLt
  have k4 := c4.isLt
  subst hs
  simp only [Word.mk.injEq, true_and, BitVec.toNat_eq]
  omega

end Sys2Proof.Machine
end

