-- ==== Sys2Proof/Laws/Exec.lean ====
section
/-! SUPPORT. exec by groups: the meaning of each instruction is the meaning of its group, and one lemma for each
shared operation says when it answers and with what. -/

namespace Sys2Proof.Machine

/-- A bind answers where both parts do. -/
theorem bind_ok {α β : Type} {x : Except Fault α} {f : α → Except Fault β} {r : β} :
    (x >>= f) = .ok r ↔ ∃ a, x = .ok a ∧ f a = .ok r := by
  cases x <;> simp [bind, Except.bind]

/-- A bind faults where the first part does, or else where the second does. -/
theorem bind_error {α β : Type} {x : Except Fault α} {f : α → Except Fault β} {k : Fault} :
    (x >>= f) = .error k ↔ x = .error k ∨ ∃ a, x = .ok a ∧ f a = .error k := by
  cases x <;> simp [bind, Except.bind]

@[simp] theorem ok_bind {α β : Type} (a : α) (f : α → Except Fault β) : ((.ok a : Except Fault α) >>= f) = f a := rfl

@[simp] theorem error_bind {α β : Type} (k : Fault) (f : α → Except Fault β) :
    ((.error k : Except Fault α) >>= f) = .error k := rfl

@[simp] theorem finish_next {r : Except Fault State} {t : State} : finish r = .next t ↔ r = .ok t := by
  cases r <;> simp [finish]

@[simp] theorem finish_fault {r : Except Fault State} {k : Fault} : finish r = .fault k ↔ r = .error k := by
  cases r <;> simp [finish]

@[simp] theorem finish_ne_refused {r : Except Fault State} {q : Refusal} : finish r ≠ .refused q := by
  cases r <;> simp [finish]

/-! ## The meaning of a group -/

/-- The relation on CI as the jumps compute it. -/
def Rel.ciBool (p : Rel) (c : CI) : Bool :=
  match p with
  | .lt => c == .less
  | .eq => c == .equal
  | .gt => c == .greater
  | .ge => c != .less
  | .ne => c != .equal
  | .le => c != .greater

theorem Rel.ciBool_iff (p : Rel) (c : CI) : p.ciBool c = true ↔ p.holdsCI c := by
  cases p <;> cases c <;> simp [Rel.ciBool, Rel.holdsCI]

/-- The predicate on a value as the jumps compute it. -/
def Rel.valBool (p : Rel) (v : Int) : Bool :=
  match p with
  | .lt => decide (v < 0)
  | .eq => decide (v = 0)
  | .gt => decide (v > 0)
  | .ge => decide (v ≥ 0)
  | .ne => decide (v ≠ 0)
  | .le => decide (v ≤ 0)

theorem Rel.valBool_iff (p : Rel) (v : Int) : p.valBool v = true ↔ p.holds v := by
  cases p <;> simp [Rel.valBool, Rel.holds]

/-- The meaning of a group: the shared operation with its arguments. -/
def groupMeaning (g : Group) (m : AddrField) (f : FieldSpec) (s : State) : Except Fault State :=
  match g with
  | .arith op => arith (AU op) m f s
  | .halt => .ok (halt s)
  | .noOp => .ok (noOp s)
  | .load r => load r m f s
  | .store src => store (src.word s) m f s
  | .jump => linkingJump true m s
  | .jumpNoSave => plainJump m s
  | .jumpCI p => linkingJump (p.ciBool s.ci) m s
  | .jumpReg r p => linkingJump (p.valBool (val (s.reg r))) m s
  | .transfer r .inc => increase r m s
  | .transfer r .dec => decrease r m s
  | .transfer r .ent => enter r m s
  | .transfer r .enn => enterNegative r m s
  | .cmp r => compare (s.reg r) m f s

/-- exec is the meaning of the instruction's group on its operands. -/
theorem exec_eq_meaning (i : Instr) (s : State) :
    exec i s = finish (groupMeaning i.group i.addrField i.modifier s) := by
  cases i <;> rfl

/-- exec answers a next state where the group's meaning does. -/
theorem exec_next {i : Instr} {s t : State} :
    exec i s = .next t ↔ groupMeaning i.group i.addrField i.modifier s = .ok t := by
  rw [exec_eq_meaning, finish_next]

/-- exec faults where the group's meaning does. -/
theorem exec_fault {i : Instr} {s : State} {k : Fault} :
    exec i s = .fault k ↔ groupMeaning i.group i.addrField i.modifier s = .error k := by
  rw [exec_eq_meaning, finish_fault]

/-! ## The shared operations -/

theorem ea_ok {m : AddrField} {s : State} {a : Int} : ea m s = .ok a ↔ indexOK m ∧ a = eaValue m s := by
  unfold ea
  by_cases h : indexOK m <;> simp [h, eq_comm]

theorem ea_error {m : AddrField} {s : State} {k : Fault} :
    ea m s = .error k ↔ ¬indexOK m ∧ k = .indexInvalid m.index := by
  unfold ea
  by_cases h : indexOK m <;> simp [h, eq_comm]

theorem checkField_ok {f : FieldSpec} {u : Unit} : checkField f = .ok u ↔ fieldOK f := by
  unfold checkField
  by_cases h : fieldOK f <;> simp [h]

theorem checkField_error {f : FieldSpec} {k : Fault} :
    checkField f = .error k ↔ ¬fieldOK f ∧ k = .fieldSpecInvalid f := by
  unfold checkField
  by_cases h : fieldOK f <;> simp [h, eq_comm]

/-- The operand fetch answers the operand word exactly where the operand is usable. -/
theorem operand_ok {m : AddrField} {f : FieldSpec} {s : State} {w : Word} :
    operand m f s = .ok w ↔ OperandReady m f s ∧ w = operandWord m f s := by
  unfold operand OperandReady operandWord memWord
  simp only [bind_ok, ea_ok, checkField_ok, memRead_ok, Except.ok.injEq]
  constructor
  · rintro ⟨a, ⟨hi, rfl⟩, _, hf, v, ⟨hm, rfl⟩, rfl⟩
    exact ⟨⟨hi, hf, hm⟩, rfl⟩
  · rintro ⟨⟨hi, hf, hm⟩, rfl⟩
    exact ⟨_, ⟨hi, rfl⟩, (), hf, _, ⟨hm, rfl⟩, rfl⟩

/-- The operand fetch's faults, in the order of 60 R343. -/
theorem operand_error {m : AddrField} {f : FieldSpec} {s : State} {k : Fault} :
    operand m f s = .error k ↔
      (¬indexOK m ∧ k = .indexInvalid m.index) ∨
      (indexOK m ∧ ¬fieldOK f ∧ k = .fieldSpecInvalid f) ∨
      (indexOK m ∧ fieldOK f ∧ ¬inMemory (eaValue m s) ∧ k = .memoryOutOfRange (eaValue m s)) := by
  unfold operand ea checkField memRead
  by_cases hi : indexOK m <;> by_cases hf : fieldOK f <;> by_cases hm : inMemory (eaValue m s) <;>
    simp [hi, hf, hm] <;> exact eq_comm

/-- What a store does: it merges the source into the memory word and advances. -/
theorem store_ok {src : Word} {m : AddrField} {f : FieldSpec} {s t : State} :
    store src m f s = .ok t ↔ OperandReady m f s ∧
      t = advance (s.setMem (s.mem.write (eaValue m s).toNat (setField (memWord m s) f src))) := by
  unfold store OperandReady memWord
  simp only [bind_ok, ea_ok, checkField_ok, memRead_ok, memWrite_ok, Except.ok.injEq]
  constructor
  · rintro ⟨a, ⟨hi, rfl⟩, _, hf, d, ⟨hm, rfl⟩, s', ⟨_, rfl⟩, rfl⟩
    exact ⟨⟨hi, hf, hm⟩, rfl⟩
  · rintro ⟨⟨hi, hf, hm⟩, rfl⟩
    exact ⟨_, ⟨hi, rfl⟩, (), hf, _, ⟨hm, rfl⟩, _, ⟨hm, rfl⟩, rfl⟩

/-- A store's faults are the operand fetch's. -/
theorem store_error {src : Word} {m : AddrField} {f : FieldSpec} {s : State} {k : Fault} :
    store src m f s = .error k ↔ operand m f s = .error k := by
  rw [operand_error]
  unfold store ea checkField memRead memWrite
  by_cases hi : indexOK m <;> by_cases hf : fieldOK f <;> by_cases hm : inMemory (eaValue m s) <;>
    simp [hi, hf, hm] <;> exact eq_comm

/-- What a load does. -/
theorem load_ok {r : Reg} {m : AddrField} {f : FieldSpec} {s t : State} :
    load r m f s = .ok t ↔ OperandReady m f s ∧ t = advance (s.setReg r (operandWord m f s)) := by
  unfold load
  simp only [bind_ok, operand_ok, Except.ok.injEq]
  constructor
  · rintro ⟨v, ⟨ho, rfl⟩, rfl⟩
    exact ⟨ho, rfl⟩
  · rintro ⟨ho, rfl⟩
    exact ⟨_, ⟨ho, rfl⟩, rfl⟩

/-- What a compare does. -/
theorem compare_ok {w : Word} {m : AddrField} {f : FieldSpec} {s t : State} :
    compare w m f s = .ok t ↔
      OperandReady m f s ∧ t = advance (s.setCI (compareCI (val (field w f)) (val (operandWord m f s)))) := by
  unfold compare
  simp only [bind_ok, operand_ok, Except.ok.injEq]
  constructor
  · rintro ⟨v, ⟨ho, rfl⟩, rfl⟩
    exact ⟨ho, rfl⟩
  · rintro ⟨ho, rfl⟩
    exact ⟨_, ⟨ho, rfl⟩, rfl⟩

/-- What an arithmetic instruction does: it writes what the unit answers. -/
theorem arith_ok {u : Params → Word → Word → Word → Except Fault (Word × Word)} {m : AddrField} {f : FieldSpec}
    {s t : State} :
    arith u m f s = .ok t ↔ OperandReady m f s ∧
      ∃ ax, u s.params s.a s.x (operandWord m f s) = .ok ax ∧ t = advance ((s.setReg .a ax.1).setReg .x ax.2) := by
  unfold arith
  simp only [bind_ok, operand_ok, Except.ok.injEq]
  constructor
  · rintro ⟨v, ⟨ho, rfl⟩, ax, hu, rfl⟩
    exact ⟨ho, ax, hu, rfl⟩
  · rintro ⟨ho, ax, hu, rfl⟩
    exact ⟨_, ⟨ho, rfl⟩, ax, hu, rfl⟩

/-- An arithmetic instruction's faults: the operand fetch's, then the unit's. -/
theorem arith_error {u : Params → Word → Word → Word → Except Fault (Word × Word)} {m : AddrField} {f : FieldSpec}
    {s : State} {k : Fault} :
    arith u m f s = .error k ↔ operand m f s = .error k ∨
      (OperandReady m f s ∧ u s.params s.a s.x (operandWord m f s) = .error k) := by
  unfold arith
  simp only [bind_error, operand_ok, reduceCtorEq, and_false, exists_false, or_false]
  constructor
  · rintro (h | ⟨v, ⟨ho, rfl⟩, h⟩)
    · exact .inl h
    · exact .inr ⟨ho, h⟩
  · rintro (h | ⟨ho, h⟩)
    · exact .inl h
    · exact .inr ⟨_, ⟨ho, rfl⟩, h⟩

/-- What a jump that saves J does. -/
theorem linkingJump_ok {b : Bool} {m : AddrField} {s t : State} :
    linkingJump b m s = .ok t ↔ indexOK m ∧
      ((b = true ∧ ∃ j, wordOf s.params.arithOverflow (nextPc s) = .ok j ∧ t = (s.setReg .j j).setPc (eaValue m s)) ∨
        (b = false ∧ t = advance s)) := by
  unfold linkingJump
  simp only [bind_ok, ea_ok]
  cases b
  · constructor
    · rintro ⟨a, ⟨hi, rfl⟩, h⟩
      exact ⟨hi, .inr ⟨rfl, by simpa [eq_comm] using h⟩⟩
    · rintro ⟨hi, ⟨h, _⟩ | ⟨_, rfl⟩⟩
      · cases h
      · exact ⟨_, ⟨hi, rfl⟩, rfl⟩
  · constructor
    · rintro ⟨a, ⟨hi, rfl⟩, h⟩
      simp only [if_true, bind_ok, Except.ok.injEq] at h
      obtain ⟨j, hj, rfl⟩ := h
      exact ⟨hi, .inl ⟨rfl, j, hj, rfl⟩⟩
    · rintro ⟨hi, ⟨_, j, hj, rfl⟩ | ⟨h, _⟩⟩
      · exact ⟨_, ⟨hi, rfl⟩, by simp [hj]⟩
      · cases h

/-- A jump that saves J faults on its index field, or on a pc no instruction stands at. -/
theorem linkingJump_error {b : Bool} {m : AddrField} {s : State} {k : Fault} :
    linkingJump b m s = .error k ↔ (¬indexOK m ∧ k = .indexInvalid m.index) ∨
      (indexOK m ∧ b = true ∧ wordOf s.params.arithOverflow (nextPc s) = .error k) := by
  unfold linkingJump
  simp only [bind_error, ea_ok, ea_error]
  cases b
  · constructor
    · rintro (h | ⟨a, ⟨hi, rfl⟩, h⟩)
      · exact .inl h
      · simp at h
    · rintro (h | ⟨_, h, _⟩)
      · exact .inl h
      · cases h
  · constructor
    · rintro (h | ⟨a, ⟨hi, rfl⟩, h⟩)
      · exact .inl h
      · simp only [if_true, bind_error, reduceCtorEq, and_false, exists_false, or_false] at h
        exact .inr ⟨hi, rfl, h⟩
    · rintro (h | ⟨hi, _, h⟩)
      · exact .inl h
      · exact .inr ⟨_, ⟨hi, rfl⟩, by simp [h]⟩

/-- What JSJ does. -/
theorem plainJump_ok {m : AddrField} {s t : State} :
    plainJump m s = .ok t ↔ indexOK m ∧ t = s.setPc (eaValue m s) := by
  unfold plainJump
  simp only [bind_ok, ea_ok, Except.ok.injEq]
  constructor
  · rintro ⟨a, ⟨hi, rfl⟩, rfl⟩
    exact ⟨hi, rfl⟩
  · rintro ⟨hi, rfl⟩
    exact ⟨_, ⟨hi, rfl⟩, rfl⟩

/-- What an address transfer does: it writes one word to its register and advances. -/
theorem transfer_ok {r : Reg} {op : TransferOp} {m : AddrField} {f : FieldSpec} {s t : State}
    (h : groupMeaning (.transfer r op) m f s = .ok t) : indexOK m ∧ ∃ w, t = advance (s.setReg r w) := by
  cases op
  all_goals
    simp only [groupMeaning, increase, decrease, enter, enterNegative, bind_ok, ea_ok, Except.ok.injEq] at h
    obtain ⟨a, ⟨hi, -⟩, w, -, rfl⟩ := h
    exact ⟨hi, w, rfl⟩

end Sys2Proof.Machine
end

