-- ==== Sys2Proof/Laws/PerInstr.lean ====
section
/-! SUPPORT. The word of each instruction matches its row of spec/opcode_table.json: the packed word under the row's
mask is the row's match. -/

namespace Sys2Proof.Laws.TableRow

open Sys2Proof

/-- The encoded word matches the instruction's own row of the opcode table. -/
def Statement (i : Instr) : Prop := (encode i).pack &&& i.tableRow.2 = i.tableRow.1

/-- A row that fixes the opcode only. -/
theorem opcode_row (c f : Byte) (m : AddrField) : (instrOf c f m).pack &&& 0x3F = c.toNat := by
  have hc := c.isLt
  rw [show (0x3F : Nat) = 2 ^ 6 - 1 from rfl, Nat.and_two_pow_sub_one_eq_mod]
  unfold Word.pack instrOf
  split <;> simp only <;> omega

/-- A row that fixes opcode and sub-mode. -/
theorem submode_row (c f : Byte) (m : AddrField) : (instrOf c f m).pack &&& 0xFFF = f.toNat * 64 + c.toNat := by
  have hc := c.isLt
  have hf := f.isLt
  rw [show (0xFFF : Nat) = 2 ^ 12 - 1 from rfl, Nat.and_two_pow_sub_one_eq_mod]
  unfold Word.pack instrOf
  split <;> simp only <;> omega

theorem add (m : AddrField) (f : FieldSpec) : Statement (.add m f) := opcode_row 1 f m
theorem sub (m : AddrField) (f : FieldSpec) : Statement (.sub m f) := opcode_row 2 f m
theorem mul (m : AddrField) (f : FieldSpec) : Statement (.mul m f) := opcode_row 3 f m
theorem div (m : AddrField) (f : FieldSpec) : Statement (.div m f) := opcode_row 4 f m
theorem hlt (m : AddrField) : Statement (.hlt m) := submode_row 5 2 m
theorem nopOp5 (m : AddrField) (f : FieldSpec) : Statement (.nopOp5 m f) := opcode_row 5 f m
theorem lda (m : AddrField) (f : FieldSpec) : Statement (.lda m f) := opcode_row 8 f m
theorem ld1 (m : AddrField) (f : FieldSpec) : Statement (.ld1 m f) := opcode_row 9 f m
theorem ld2 (m : AddrField) (f : FieldSpec) : Statement (.ld2 m f) := opcode_row 10 f m
theorem ld3 (m : AddrField) (f : FieldSpec) : Statement (.ld3 m f) := opcode_row 11 f m
theorem ld4 (m : AddrField) (f : FieldSpec) : Statement (.ld4 m f) := opcode_row 12 f m
theorem ld5 (m : AddrField) (f : FieldSpec) : Statement (.ld5 m f) := opcode_row 13 f m
theorem ld6 (m : AddrField) (f : FieldSpec) : Statement (.ld6 m f) := opcode_row 14 f m
theorem ldx (m : AddrField) (f : FieldSpec) : Statement (.ldx m f) := opcode_row 15 f m
theorem sta (m : AddrField) (f : FieldSpec) : Statement (.sta m f) := opcode_row 24 f m
theorem st1 (m : AddrField) (f : FieldSpec) : Statement (.st1 m f) := opcode_row 25 f m
theorem st2 (m : AddrField) (f : FieldSpec) : Statement (.st2 m f) := opcode_row 26 f m
theorem st3 (m : AddrField) (f : FieldSpec) : Statement (.st3 m f) := opcode_row 27 f m
theorem st4 (m : AddrField) (f : FieldSpec) : Statement (.st4 m f) := opcode_row 28 f m
theorem st5 (m : AddrField) (f : FieldSpec) : Statement (.st5 m f) := opcode_row 29 f m
theorem st6 (m : AddrField) (f : FieldSpec) : Statement (.st6 m f) := opcode_row 30 f m
theorem stx (m : AddrField) (f : FieldSpec) : Statement (.stx m f) := opcode_row 31 f m
theorem stj (m : AddrField) (f : FieldSpec) : Statement (.stj m f) := opcode_row 32 f m
theorem stz (m : AddrField) (f : FieldSpec) : Statement (.stz m f) := opcode_row 33 f m
theorem jmp (m : AddrField) : Statement (.jmp m) := submode_row 39 0 m
theorem jsj (m : AddrField) : Statement (.jsj m) := submode_row 39 1 m
theorem jl (m : AddrField) : Statement (.jl m) := submode_row 39 4 m
theorem je (m : AddrField) : Statement (.je m) := submode_row 39 5 m
theorem jg (m : AddrField) : Statement (.jg m) := submode_row 39 6 m
theorem jge (m : AddrField) : Statement (.jge m) := submode_row 39 7 m
theorem jne (m : AddrField) : Statement (.jne m) := submode_row 39 8 m
theorem jle (m : AddrField) : Statement (.jle m) := submode_row 39 9 m
theorem nopOp39 (m : AddrField) (f : FieldSpec) : Statement (.nopOp39 m f) := opcode_row 39 f m
theorem jan (m : AddrField) : Statement (.jan m) := submode_row 40 0 m
theorem jaz (m : AddrField) : Statement (.jaz m) := submode_row 40 1 m
theorem jap (m : AddrField) : Statement (.jap m) := submode_row 40 2 m
theorem jann (m : AddrField) : Statement (.jann m) := submode_row 40 3 m
theorem janz (m : AddrField) : Statement (.janz m) := submode_row 40 4 m
theorem janp (m : AddrField) : Statement (.janp m) := submode_row 40 5 m
theorem nopOp40 (m : AddrField) (f : FieldSpec) : Statement (.nopOp40 m f) := opcode_row 40 f m
theorem j1n (m : AddrField) : Statement (.j1n m) := submode_row 41 0 m
theorem j1z (m : AddrField) : Statement (.j1z m) := submode_row 41 1 m
theorem j1p (m : AddrField) : Statement (.j1p m) := submode_row 41 2 m
theorem j1nn (m : AddrField) : Statement (.j1nn m) := submode_row 41 3 m
theorem j1nz (m : AddrField) : Statement (.j1nz m) := submode_row 41 4 m
theorem j1np (m : AddrField) : Statement (.j1np m) := submode_row 41 5 m
theorem nopOp41 (m : AddrField) (f : FieldSpec) : Statement (.nopOp41 m f) := opcode_row 41 f m
theorem j2n (m : AddrField) : Statement (.j2n m) := submode_row 42 0 m
theorem j2z (m : AddrField) : Statement (.j2z m) := submode_row 42 1 m
theorem j2p (m : AddrField) : Statement (.j2p m) := submode_row 42 2 m
theorem j2nn (m : AddrField) : Statement (.j2nn m) := submode_row 42 3 m
theorem j2nz (m : AddrField) : Statement (.j2nz m) := submode_row 42 4 m
theorem j2np (m : AddrField) : Statement (.j2np m) := submode_row 42 5 m
theorem nopOp42 (m : AddrField) (f : FieldSpec) : Statement (.nopOp42 m f) := opcode_row 42 f m
theorem j3n (m : AddrField) : Statement (.j3n m) := submode_row 43 0 m
theorem j3z (m : AddrField) : Statement (.j3z m) := submode_row 43 1 m
theorem j3p (m : AddrField) : Statement (.j3p m) := submode_row 43 2 m
theorem j3nn (m : AddrField) : Statement (.j3nn m) := submode_row 43 3 m
theorem j3nz (m : AddrField) : Statement (.j3nz m) := submode_row 43 4 m
theorem j3np (m : AddrField) : Statement (.j3np m) := submode_row 43 5 m
theorem nopOp43 (m : AddrField) (f : FieldSpec) : Statement (.nopOp43 m f) := opcode_row 43 f m
theorem j4n (m : AddrField) : Statement (.j4n m) := submode_row 44 0 m
theorem j4z (m : AddrField) : Statement (.j4z m) := submode_row 44 1 m
theorem j4p (m : AddrField) : Statement (.j4p m) := submode_row 44 2 m
theorem j4nn (m : AddrField) : Statement (.j4nn m) := submode_row 44 3 m
theorem j4nz (m : AddrField) : Statement (.j4nz m) := submode_row 44 4 m
theorem j4np (m : AddrField) : Statement (.j4np m) := submode_row 44 5 m
theorem nopOp44 (m : AddrField) (f : FieldSpec) : Statement (.nopOp44 m f) := opcode_row 44 f m
theorem j5n (m : AddrField) : Statement (.j5n m) := submode_row 45 0 m
theorem j5z (m : AddrField) : Statement (.j5z m) := submode_row 45 1 m
theorem j5p (m : AddrField) : Statement (.j5p m) := submode_row 45 2 m
theorem j5nn (m : AddrField) : Statement (.j5nn m) := submode_row 45 3 m
theorem j5nz (m : AddrField) : Statement (.j5nz m) := submode_row 45 4 m
theorem j5np (m : AddrField) : Statement (.j5np m) := submode_row 45 5 m
theorem nopOp45 (m : AddrField) (f : FieldSpec) : Statement (.nopOp45 m f) := opcode_row 45 f m
theorem j6n (m : AddrField) : Statement (.j6n m) := submode_row 46 0 m
theorem j6z (m : AddrField) : Statement (.j6z m) := submode_row 46 1 m
theorem j6p (m : AddrField) : Statement (.j6p m) := submode_row 46 2 m
theorem j6nn (m : AddrField) : Statement (.j6nn m) := submode_row 46 3 m
theorem j6nz (m : AddrField) : Statement (.j6nz m) := submode_row 46 4 m
theorem j6np (m : AddrField) : Statement (.j6np m) := submode_row 46 5 m
theorem nopOp46 (m : AddrField) (f : FieldSpec) : Statement (.nopOp46 m f) := opcode_row 46 f m
theorem jxn (m : AddrField) : Statement (.jxn m) := submode_row 47 0 m
theorem jxz (m : AddrField) : Statement (.jxz m) := submode_row 47 1 m
theorem jxp (m : AddrField) : Statement (.jxp m) := submode_row 47 2 m
theorem jxnn (m : AddrField) : Statement (.jxnn m) := submode_row 47 3 m
theorem jxnz (m : AddrField) : Statement (.jxnz m) := submode_row 47 4 m
theorem jxnp (m : AddrField) : Statement (.jxnp m) := submode_row 47 5 m
theorem nopOp47 (m : AddrField) (f : FieldSpec) : Statement (.nopOp47 m f) := opcode_row 47 f m
theorem inca (m : AddrField) : Statement (.inca m) := submode_row 48 0 m
theorem deca (m : AddrField) : Statement (.deca m) := submode_row 48 1 m
theorem enta (m : AddrField) : Statement (.enta m) := submode_row 48 2 m
theorem enna (m : AddrField) : Statement (.enna m) := submode_row 48 3 m
theorem nopOp48 (m : AddrField) (f : FieldSpec) : Statement (.nopOp48 m f) := opcode_row 48 f m
theorem inc1 (m : AddrField) : Statement (.inc1 m) := submode_row 49 0 m
theorem dec1 (m : AddrField) : Statement (.dec1 m) := submode_row 49 1 m
theorem ent1 (m : AddrField) : Statement (.ent1 m) := submode_row 49 2 m
theorem enn1 (m : AddrField) : Statement (.enn1 m) := submode_row 49 3 m
theorem nopOp49 (m : AddrField) (f : FieldSpec) : Statement (.nopOp49 m f) := opcode_row 49 f m
theorem inc2 (m : AddrField) : Statement (.inc2 m) := submode_row 50 0 m
theorem dec2 (m : AddrField) : Statement (.dec2 m) := submode_row 50 1 m
theorem ent2 (m : AddrField) : Statement (.ent2 m) := submode_row 50 2 m
theorem enn2 (m : AddrField) : Statement (.enn2 m) := submode_row 50 3 m
theorem nopOp50 (m : AddrField) (f : FieldSpec) : Statement (.nopOp50 m f) := opcode_row 50 f m
theorem inc3 (m : AddrField) : Statement (.inc3 m) := submode_row 51 0 m
theorem dec3 (m : AddrField) : Statement (.dec3 m) := submode_row 51 1 m
theorem ent3 (m : AddrField) : Statement (.ent3 m) := submode_row 51 2 m
theorem enn3 (m : AddrField) : Statement (.enn3 m) := submode_row 51 3 m
theorem nopOp51 (m : AddrField) (f : FieldSpec) : Statement (.nopOp51 m f) := opcode_row 51 f m
theorem inc4 (m : AddrField) : Statement (.inc4 m) := submode_row 52 0 m
theorem dec4 (m : AddrField) : Statement (.dec4 m) := submode_row 52 1 m
theorem ent4 (m : AddrField) : Statement (.ent4 m) := submode_row 52 2 m
theorem enn4 (m : AddrField) : Statement (.enn4 m) := submode_row 52 3 m
theorem nopOp52 (m : AddrField) (f : FieldSpec) : Statement (.nopOp52 m f) := opcode_row 52 f m
theorem inc5 (m : AddrField) : Statement (.inc5 m) := submode_row 53 0 m
theorem dec5 (m : AddrField) : Statement (.dec5 m) := submode_row 53 1 m
theorem ent5 (m : AddrField) : Statement (.ent5 m) := submode_row 53 2 m
theorem enn5 (m : AddrField) : Statement (.enn5 m) := submode_row 53 3 m
theorem nopOp53 (m : AddrField) (f : FieldSpec) : Statement (.nopOp53 m f) := opcode_row 53 f m
theorem inc6 (m : AddrField) : Statement (.inc6 m) := submode_row 54 0 m
theorem dec6 (m : AddrField) : Statement (.dec6 m) := submode_row 54 1 m
theorem ent6 (m : AddrField) : Statement (.ent6 m) := submode_row 54 2 m
theorem enn6 (m : AddrField) : Statement (.enn6 m) := submode_row 54 3 m
theorem nopOp54 (m : AddrField) (f : FieldSpec) : Statement (.nopOp54 m f) := opcode_row 54 f m
theorem incx (m : AddrField) : Statement (.incx m) := submode_row 55 0 m
theorem decx (m : AddrField) : Statement (.decx m) := submode_row 55 1 m
theorem entx (m : AddrField) : Statement (.entx m) := submode_row 55 2 m
theorem ennx (m : AddrField) : Statement (.ennx m) := submode_row 55 3 m
theorem nopOp55 (m : AddrField) (f : FieldSpec) : Statement (.nopOp55 m f) := opcode_row 55 f m
theorem cmpa (m : AddrField) (f : FieldSpec) : Statement (.cmpa m f) := opcode_row 56 f m
theorem cmp1 (m : AddrField) (f : FieldSpec) : Statement (.cmp1 m f) := opcode_row 57 f m
theorem cmp2 (m : AddrField) (f : FieldSpec) : Statement (.cmp2 m f) := opcode_row 58 f m
theorem cmp3 (m : AddrField) (f : FieldSpec) : Statement (.cmp3 m f) := opcode_row 59 f m
theorem cmp4 (m : AddrField) (f : FieldSpec) : Statement (.cmp4 m f) := opcode_row 60 f m
theorem cmp5 (m : AddrField) (f : FieldSpec) : Statement (.cmp5 m f) := opcode_row 61 f m
theorem cmp6 (m : AddrField) (f : FieldSpec) : Statement (.cmp6 m f) := opcode_row 62 f m
theorem cmpx (m : AddrField) (f : FieldSpec) : Statement (.cmpx m f) := opcode_row 63 f m
theorem unkOp0 (m : AddrField) (f : FieldSpec) : Statement (.unkOp0 m f) := opcode_row 0 f m
theorem unkOp6 (m : AddrField) (f : FieldSpec) : Statement (.unkOp6 m f) := opcode_row 6 f m
theorem unkOp7 (m : AddrField) (f : FieldSpec) : Statement (.unkOp7 m f) := opcode_row 7 f m
theorem unkOp16 (m : AddrField) (f : FieldSpec) : Statement (.unkOp16 m f) := opcode_row 16 f m
theorem unkOp17 (m : AddrField) (f : FieldSpec) : Statement (.unkOp17 m f) := opcode_row 17 f m
theorem unkOp18 (m : AddrField) (f : FieldSpec) : Statement (.unkOp18 m f) := opcode_row 18 f m
theorem unkOp19 (m : AddrField) (f : FieldSpec) : Statement (.unkOp19 m f) := opcode_row 19 f m
theorem unkOp20 (m : AddrField) (f : FieldSpec) : Statement (.unkOp20 m f) := opcode_row 20 f m
theorem unkOp21 (m : AddrField) (f : FieldSpec) : Statement (.unkOp21 m f) := opcode_row 21 f m
theorem unkOp22 (m : AddrField) (f : FieldSpec) : Statement (.unkOp22 m f) := opcode_row 22 f m
theorem unkOp23 (m : AddrField) (f : FieldSpec) : Statement (.unkOp23 m f) := opcode_row 23 f m
theorem unkOp34 (m : AddrField) (f : FieldSpec) : Statement (.unkOp34 m f) := opcode_row 34 f m
theorem unkOp35 (m : AddrField) (f : FieldSpec) : Statement (.unkOp35 m f) := opcode_row 35 f m
theorem unkOp36 (m : AddrField) (f : FieldSpec) : Statement (.unkOp36 m f) := opcode_row 36 f m
theorem unkOp37 (m : AddrField) (f : FieldSpec) : Statement (.unkOp37 m f) := opcode_row 37 f m
theorem unkOp38 (m : AddrField) (f : FieldSpec) : Statement (.unkOp38 m f) := opcode_row 38 f m

end Sys2Proof.Laws.TableRow
end

