-- ==== Sys2Proof/Laws/Step.lean ====
section
/-! SUPPORT. What a step can do, said once, and how the host's `Core.run` unfolds on this machine. -/

namespace Sys2Proof.Machine

/-- A step that answers a next state: a halted machine stays, a running one executed the word at its pc. -/
theorem step_next_cases {s t : State} (h : step s = .next t) :
    (s.status = .halted ∧ t = s) ∨
    (s.status = .running ∧ inMemory s.pc ∧ exec (decodeIn s.params.opcodeMap (s.mem.read s.pc.toNat)) s = .next t) := by
  unfold step at h
  cases hs : s.status with
  | halted => rw [hs] at h; cases h; exact .inl ⟨rfl, rfl⟩
  | faulted k => rw [hs] at h; cases h
  | running =>
    rw [hs] at h
    cases hf : fetch s with
    | error k => rw [hf] at h; cases h
    | ok w =>
      rw [hf] at h
      obtain ⟨hp, rfl⟩ := fetch_ok.1 hf
      exact .inr ⟨rfl, hp, h⟩

theorem hostRun_next (M : Host.Core) {n : Nat} {s t : M.State} (h : M.step s = .next t) : M.run (n + 1) s = M.run n t := by
  rw [Host.Core.run, h]

/-- The host's run over one completed step. -/
theorem coreRun_next {n : Nat} {s t : State} (h : step s = .next t) : core.run (n + 1) s = core.run n t :=
  hostRun_next core h

end Sys2Proof.Machine
end

