-- ==== Sys2Proof/Tests/Slice0.lean ====
section
/-! SUPPORT. The model's own tests. Words are written out from spec/opcode_table.json (match, with operand bits set by
hand) and 30 R80; expected results are the rows of 95 (L2.3) a test names, or hand calculation from the rule it names.
The last part holds, for each statement of Obligations.lean with hypotheses, a state that meets them. -/

namespace Sys2Proof.Tests

open Sys2Proof Sys2Proof.Machine

-- One theorem after the other: in parallel, their threads' stacks exceed the memory limit of the check.
set_option Elab.async false

/-! ## Helpers -/

/-- The next state, where there is one. -/
def nextOf (o : StepOutcome) : Option State :=
  match o with
  | .next s => some s
  | .fault _ => none
  | .refused _ => none

/-- The fault, where there is one. -/
def faultOf (o : StepOutcome) : Option Fault :=
  match o with
  | .fault k => some k
  | .next _ => none
  | .refused _ => none

theorem exists_next {o : StepOutcome} (h : (nextOf o).isSome = true) : ∃ t, o = .next t := by
  cases o with
  | next t => exact ⟨t, rfl⟩
  | fault k => cases h
  | refused q => cases h

theorem fault_of {o : StepOutcome} {k : Fault} (h : faultOf o = some k) : o = .fault k := by
  cases o with
  | next t => cases h
  | fault k' => cases h; rfl
  | refused q => cases h

/-- The packed word `w` placed at pc = 10, as in 95 L2.3. -/
def at10 (w : Nat) (b : State) : State := hostStore (b.setPc 10) 10 (Word.unpack w)

/-- One step over the word `w` at pc = 10 makes exactly the stated change. -/
def gives (w : Nat) (b : State) (change : State → State) : Bool :=
  decide (nextOf (step (at10 w b)) = some (change (at10 w b)))

/-- One step over the word `w` at pc = 10 faults so. -/
def faults (w : Nat) (b : State) (k : Fault) : Bool := decide (faultOf (step (at10 w b)) = some k)

/-- A word from its bytes, positive. -/
def pos (b4 b3 b2 b1 b0 : Byte) : Word := ⟨false, b4, b3, b2, b1, b0⟩

/-- A word from its bytes, negative. -/
def neg (b4 b3 b2 b1 b0 : Byte) : Word := ⟨true, b4, b3, b2, b1, b0⟩

/-- The reset state with other parameters. -/
def withParams (o : ArithOverflow) (z : ZeroResultSign) (d : DividendSign) : State :=
  State.construct ⟨o, z, d, .default⟩ .default 0

/-- A small state: A = +100, X = −7, I1 = +5, I6 = −1, J = +9, M[1000] = [− 1 3 7 15 31], pc = 10. -/
def demo : State :=
  hostStore (((((State.reset.setReg .a (pos 0 0 0 1 36)).setReg .x (neg 0 0 0 0 7)).setReg .i1 (pos 0 0 0 0 5)).setReg
    .i6 (neg 0 0 0 0 1)).setReg .j (pos 0 0 0 0 9) |>.setPc 10) 1000 (neg 1 3 7 15 31)

/-! ## Decoding: every constructor from a word of its row -/

theorem test_decode_arithmetic :
    decodeTableWord 32 0x5F4034C1 = some (.add ⟨true, 2000, 3⟩ 19) ∧
    decodeTableWord 32 0x5F4034C2 = some (.sub ⟨true, 2000, 3⟩ 19) ∧
    decodeTableWord 32 0x5F4034C3 = some (.mul ⟨true, 2000, 3⟩ 19) ∧
    decodeTableWord 32 0x5F4034C4 = some (.div ⟨true, 2000, 3⟩ 19) ∧
    decodeTableWord 32 0x5F4034C0 = some (.unkOp0 ⟨true, 2000, 3⟩ 19) := by decide +kernel

theorem test_decode_special :
    decodeTableWord 32 0x5F403085 = some (.hlt ⟨true, 2000, 3⟩) ∧
    decodeTableWord 32 0x5F403245 = some (.nopOp5 ⟨true, 2000, 3⟩ 9) := by decide +kernel

theorem test_decode_load :
    decodeTableWord 32 0x5F4034C8 = some (.lda ⟨true, 2000, 3⟩ 19) ∧
    decodeTableWord 32 0x5F4034C9 = some (.ld1 ⟨true, 2000, 3⟩ 19) ∧
    decodeTableWord 32 0x5F4034CA = some (.ld2 ⟨true, 2000, 3⟩ 19) ∧
    decodeTableWord 32 0x5F4034CB = some (.ld3 ⟨true, 2000, 3⟩ 19) ∧
    decodeTableWord 32 0x5F4034CC = some (.ld4 ⟨true, 2000, 3⟩ 19) ∧
    decodeTableWord 32 0x5F4034CD = some (.ld5 ⟨true, 2000, 3⟩ 19) ∧
    decodeTableWord 32 0x5F4034CE = some (.ld6 ⟨true, 2000, 3⟩ 19) ∧
    decodeTableWord 32 0x5F4034CF = some (.ldx ⟨true, 2000, 3⟩ 19) := by decide +kernel

theorem test_decode_store :
    decodeTableWord 32 0x5F4034D8 = some (.sta ⟨true, 2000, 3⟩ 19) ∧
    decodeTableWord 32 0x5F4034D9 = some (.st1 ⟨true, 2000, 3⟩ 19) ∧
    decodeTableWord 32 0x5F4034DA = some (.st2 ⟨true, 2000, 3⟩ 19) ∧
    decodeTableWord 32 0x5F4034DB = some (.st3 ⟨true, 2000, 3⟩ 19) ∧
    decodeTableWord 32 0x5F4034DC = some (.st4 ⟨true, 2000, 3⟩ 19) ∧
    decodeTableWord 32 0x5F4034DD = some (.st5 ⟨true, 2000, 3⟩ 19) ∧
    decodeTableWord 32 0x5F4034DE = some (.st6 ⟨true, 2000, 3⟩ 19) ∧
    decodeTableWord 32 0x5F4034DF = some (.stx ⟨true, 2000, 3⟩ 19) ∧
    decodeTableWord 32 0x5F4034E0 = some (.stj ⟨true, 2000, 3⟩ 19) ∧
    decodeTableWord 32 0x5F4034E1 = some (.stz ⟨true, 2000, 3⟩ 19) := by decide +kernel

theorem test_decode_jump :
    decodeTableWord 32 0x5F403027 = some (.jmp ⟨true, 2000, 3⟩) ∧
    decodeTableWord 32 0x5F403067 = some (.jsj ⟨true, 2000, 3⟩) ∧
    decodeTableWord 32 0x5F403127 = some (.jl ⟨true, 2000, 3⟩) ∧
    decodeTableWord 32 0x5F403167 = some (.je ⟨true, 2000, 3⟩) ∧
    decodeTableWord 32 0x5F4031A7 = some (.jg ⟨true, 2000, 3⟩) ∧
    decodeTableWord 32 0x5F4031E7 = some (.jge ⟨true, 2000, 3⟩) ∧
    decodeTableWord 32 0x5F403227 = some (.jne ⟨true, 2000, 3⟩) ∧
    decodeTableWord 32 0x5F403267 = some (.jle ⟨true, 2000, 3⟩) ∧
    decodeTableWord 32 0x5F4030E7 = some (.nopOp39 ⟨true, 2000, 3⟩ 3) := by decide +kernel

theorem test_decode_jump_reg_a :
    decodeTableWord 32 0x5F403028 = some (.jan ⟨true, 2000, 3⟩) ∧
    decodeTableWord 32 0x5F403068 = some (.jaz ⟨true, 2000, 3⟩) ∧
    decodeTableWord 32 0x5F4030A8 = some (.jap ⟨true, 2000, 3⟩) ∧
    decodeTableWord 32 0x5F4030E8 = some (.jann ⟨true, 2000, 3⟩) ∧
    decodeTableWord 32 0x5F403128 = some (.janz ⟨true, 2000, 3⟩) ∧
    decodeTableWord 32 0x5F403168 = some (.janp ⟨true, 2000, 3⟩) ∧
    decodeTableWord 32 0x5F4031A8 = some (.nopOp40 ⟨true, 2000, 3⟩ 6) := by decide +kernel

theorem test_decode_jump_reg_1 :
    decodeTableWord 32 0x5F403029 = some (.j1n ⟨true, 2000, 3⟩) ∧
    decodeTableWord 32 0x5F403069 = some (.j1z ⟨true, 2000, 3⟩) ∧
    decodeTableWord 32 0x5F4030A9 = some (.j1p ⟨true, 2000, 3⟩) ∧
    decodeTableWord 32 0x5F4030E9 = some (.j1nn ⟨true, 2000, 3⟩) ∧
    decodeTableWord 32 0x5F403129 = some (.j1nz ⟨true, 2000, 3⟩) ∧
    decodeTableWord 32 0x5F403169 = some (.j1np ⟨true, 2000, 3⟩) ∧
    decodeTableWord 32 0x5F4031A9 = some (.nopOp41 ⟨true, 2000, 3⟩ 6) := by decide +kernel

theorem test_decode_jump_reg_2 :
    decodeTableWord 32 0x5F40302A = some (.j2n ⟨true, 2000, 3⟩) ∧
    decodeTableWord 32 0x5F40306A = some (.j2z ⟨true, 2000, 3⟩) ∧
    decodeTableWord 32 0x5F4030AA = some (.j2p ⟨true, 2000, 3⟩) ∧
    decodeTableWord 32 0x5F4030EA = some (.j2nn ⟨true, 2000, 3⟩) ∧
    decodeTableWord 32 0x5F40312A = some (.j2nz ⟨true, 2000, 3⟩) ∧
    decodeTableWord 32 0x5F40316A = some (.j2np ⟨true, 2000, 3⟩) ∧
    decodeTableWord 32 0x5F4031AA = some (.nopOp42 ⟨true, 2000, 3⟩ 6) := by decide +kernel

theorem test_decode_jump_reg_3 :
    decodeTableWord 32 0x5F40302B = some (.j3n ⟨true, 2000, 3⟩) ∧
    decodeTableWord 32 0x5F40306B = some (.j3z ⟨true, 2000, 3⟩) ∧
    decodeTableWord 32 0x5F4030AB = some (.j3p ⟨true, 2000, 3⟩) ∧
    decodeTableWord 32 0x5F4030EB = some (.j3nn ⟨true, 2000, 3⟩) ∧
    decodeTableWord 32 0x5F40312B = some (.j3nz ⟨true, 2000, 3⟩) ∧
    decodeTableWord 32 0x5F40316B = some (.j3np ⟨true, 2000, 3⟩) ∧
    decodeTableWord 32 0x5F4031AB = some (.nopOp43 ⟨true, 2000, 3⟩ 6) := by decide +kernel

theorem test_decode_jump_reg_4 :
    decodeTableWord 32 0x5F40302C = some (.j4n ⟨true, 2000, 3⟩) ∧
    decodeTableWord 32 0x5F40306C = some (.j4z ⟨true, 2000, 3⟩) ∧
    decodeTableWord 32 0x5F4030AC = some (.j4p ⟨true, 2000, 3⟩) ∧
    decodeTableWord 32 0x5F4030EC = some (.j4nn ⟨true, 2000, 3⟩) ∧
    decodeTableWord 32 0x5F40312C = some (.j4nz ⟨true, 2000, 3⟩) ∧
    decodeTableWord 32 0x5F40316C = some (.j4np ⟨true, 2000, 3⟩) ∧
    decodeTableWord 32 0x5F4031AC = some (.nopOp44 ⟨true, 2000, 3⟩ 6) := by decide +kernel

theorem test_decode_jump_reg_5 :
    decodeTableWord 32 0x5F40302D = some (.j5n ⟨true, 2000, 3⟩) ∧
    decodeTableWord 32 0x5F40306D = some (.j5z ⟨true, 2000, 3⟩) ∧
    decodeTableWord 32 0x5F4030AD = some (.j5p ⟨true, 2000, 3⟩) ∧
    decodeTableWord 32 0x5F4030ED = some (.j5nn ⟨true, 2000, 3⟩) ∧
    decodeTableWord 32 0x5F40312D = some (.j5nz ⟨true, 2000, 3⟩) ∧
    decodeTableWord 32 0x5F40316D = some (.j5np ⟨true, 2000, 3⟩) ∧
    decodeTableWord 32 0x5F4031AD = some (.nopOp45 ⟨true, 2000, 3⟩ 6) := by decide +kernel

theorem test_decode_jump_reg_6 :
    decodeTableWord 32 0x5F40302E = some (.j6n ⟨true, 2000, 3⟩) ∧
    decodeTableWord 32 0x5F40306E = some (.j6z ⟨true, 2000, 3⟩) ∧
    decodeTableWord 32 0x5F4030AE = some (.j6p ⟨true, 2000, 3⟩) ∧
    decodeTableWord 32 0x5F4030EE = some (.j6nn ⟨true, 2000, 3⟩) ∧
    decodeTableWord 32 0x5F40312E = some (.j6nz ⟨true, 2000, 3⟩) ∧
    decodeTableWord 32 0x5F40316E = some (.j6np ⟨true, 2000, 3⟩) ∧
    decodeTableWord 32 0x5F4031AE = some (.nopOp46 ⟨true, 2000, 3⟩ 6) := by decide +kernel

theorem test_decode_jump_reg_x :
    decodeTableWord 32 0x5F40302F = some (.jxn ⟨true, 2000, 3⟩) ∧
    decodeTableWord 32 0x5F40306F = some (.jxz ⟨true, 2000, 3⟩) ∧
    decodeTableWord 32 0x5F4030AF = some (.jxp ⟨true, 2000, 3⟩) ∧
    decodeTableWord 32 0x5F4030EF = some (.jxnn ⟨true, 2000, 3⟩) ∧
    decodeTableWord 32 0x5F40312F = some (.jxnz ⟨true, 2000, 3⟩) ∧
    decodeTableWord 32 0x5F40316F = some (.jxnp ⟨true, 2000, 3⟩) ∧
    decodeTableWord 32 0x5F4031AF = some (.nopOp47 ⟨true, 2000, 3⟩ 6) := by decide +kernel

theorem test_decode_transfer_a :
    decodeTableWord 32 0x5F403030 = some (.inca ⟨true, 2000, 3⟩) ∧
    decodeTableWord 32 0x5F403070 = some (.deca ⟨true, 2000, 3⟩) ∧
    decodeTableWord 32 0x5F4030B0 = some (.enta ⟨true, 2000, 3⟩) ∧
    decodeTableWord 32 0x5F4030F0 = some (.enna ⟨true, 2000, 3⟩) ∧
    decodeTableWord 32 0x5F403FF0 = some (.nopOp48 ⟨true, 2000, 3⟩ 63) := by decide +kernel

theorem test_decode_transfer_1 :
    decodeTableWord 32 0x5F403031 = some (.inc1 ⟨true, 2000, 3⟩) ∧
    decodeTableWord 32 0x5F403071 = some (.dec1 ⟨true, 2000, 3⟩) ∧
    decodeTableWord 32 0x5F4030B1 = some (.ent1 ⟨true, 2000, 3⟩) ∧
    decodeTableWord 32 0x5F4030F1 = some (.enn1 ⟨true, 2000, 3⟩) ∧
    decodeTableWord 32 0x5F403FF1 = some (.nopOp49 ⟨true, 2000, 3⟩ 63) := by decide +kernel

theorem test_decode_transfer_2 :
    decodeTableWord 32 0x5F403032 = some (.inc2 ⟨true, 2000, 3⟩) ∧
    decodeTableWord 32 0x5F403072 = some (.dec2 ⟨true, 2000, 3⟩) ∧
    decodeTableWord 32 0x5F4030B2 = some (.ent2 ⟨true, 2000, 3⟩) ∧
    decodeTableWord 32 0x5F4030F2 = some (.enn2 ⟨true, 2000, 3⟩) ∧
    decodeTableWord 32 0x5F403FF2 = some (.nopOp50 ⟨true, 2000, 3⟩ 63) := by decide +kernel

theorem test_decode_transfer_3 :
    decodeTableWord 32 0x5F403033 = some (.inc3 ⟨true, 2000, 3⟩) ∧
    decodeTableWord 32 0x5F403073 = some (.dec3 ⟨true, 2000, 3⟩) ∧
    decodeTableWord 32 0x5F4030B3 = some (.ent3 ⟨true, 2000, 3⟩) ∧
    decodeTableWord 32 0x5F4030F3 = some (.enn3 ⟨true, 2000, 3⟩) ∧
    decodeTableWord 32 0x5F403FF3 = some (.nopOp51 ⟨true, 2000, 3⟩ 63) := by decide +kernel

theorem test_decode_transfer_4 :
    decodeTableWord 32 0x5F403034 = some (.inc4 ⟨true, 2000, 3⟩) ∧
    decodeTableWord 32 0x5F403074 = some (.dec4 ⟨true, 2000, 3⟩) ∧
    decodeTableWord 32 0x5F4030B4 = some (.ent4 ⟨true, 2000, 3⟩) ∧
    decodeTableWord 32 0x5F4030F4 = some (.enn4 ⟨true, 2000, 3⟩) ∧
    decodeTableWord 32 0x5F403FF4 = some (.nopOp52 ⟨true, 2000, 3⟩ 63) := by decide +kernel

theorem test_decode_transfer_5 :
    decodeTableWord 32 0x5F403035 = some (.inc5 ⟨true, 2000, 3⟩) ∧
    decodeTableWord 32 0x5F403075 = some (.dec5 ⟨true, 2000, 3⟩) ∧
    decodeTableWord 32 0x5F4030B5 = some (.ent5 ⟨true, 2000, 3⟩) ∧
    decodeTableWord 32 0x5F4030F5 = some (.enn5 ⟨true, 2000, 3⟩) ∧
    decodeTableWord 32 0x5F403FF5 = some (.nopOp53 ⟨true, 2000, 3⟩ 63) := by decide +kernel

theorem test_decode_transfer_6 :
    decodeTableWord 32 0x5F403036 = some (.inc6 ⟨true, 2000, 3⟩) ∧
    decodeTableWord 32 0x5F403076 = some (.dec6 ⟨true, 2000, 3⟩) ∧
    decodeTableWord 32 0x5F4030B6 = some (.ent6 ⟨true, 2000, 3⟩) ∧
    decodeTableWord 32 0x5F4030F6 = some (.enn6 ⟨true, 2000, 3⟩) ∧
    decodeTableWord 32 0x5F403FF6 = some (.nopOp54 ⟨true, 2000, 3⟩ 63) := by decide +kernel

theorem test_decode_transfer_x :
    decodeTableWord 32 0x5F403037 = some (.incx ⟨true, 2000, 3⟩) ∧
    decodeTableWord 32 0x5F403077 = some (.decx ⟨true, 2000, 3⟩) ∧
    decodeTableWord 32 0x5F4030B7 = some (.entx ⟨true, 2000, 3⟩) ∧
    decodeTableWord 32 0x5F4030F7 = some (.ennx ⟨true, 2000, 3⟩) ∧
    decodeTableWord 32 0x5F403FF7 = some (.nopOp55 ⟨true, 2000, 3⟩ 63) := by decide +kernel

theorem test_decode_compare :
    decodeTableWord 32 0x5F4034F8 = some (.cmpa ⟨true, 2000, 3⟩ 19) ∧
    decodeTableWord 32 0x5F4034F9 = some (.cmp1 ⟨true, 2000, 3⟩ 19) ∧
    decodeTableWord 32 0x5F4034FA = some (.cmp2 ⟨true, 2000, 3⟩ 19) ∧
    decodeTableWord 32 0x5F4034FB = some (.cmp3 ⟨true, 2000, 3⟩ 19) ∧
    decodeTableWord 32 0x5F4034FC = some (.cmp4 ⟨true, 2000, 3⟩ 19) ∧
    decodeTableWord 32 0x5F4034FD = some (.cmp5 ⟨true, 2000, 3⟩ 19) ∧
    decodeTableWord 32 0x5F4034FE = some (.cmp6 ⟨true, 2000, 3⟩ 19) ∧
    decodeTableWord 32 0x5F4034FF = some (.cmpx ⟨true, 2000, 3⟩ 19) := by decide +kernel

theorem test_decode_unknown :
    decodeTableWord 32 0x5F4034C6 = some (.unkOp6 ⟨true, 2000, 3⟩ 19) ∧
    decodeTableWord 32 0x5F4034C7 = some (.unkOp7 ⟨true, 2000, 3⟩ 19) ∧
    decodeTableWord 32 0x5F4034D0 = some (.unkOp16 ⟨true, 2000, 3⟩ 19) ∧
    decodeTableWord 32 0x5F4034D1 = some (.unkOp17 ⟨true, 2000, 3⟩ 19) ∧
    decodeTableWord 32 0x5F4034D2 = some (.unkOp18 ⟨true, 2000, 3⟩ 19) ∧
    decodeTableWord 32 0x5F4034D3 = some (.unkOp19 ⟨true, 2000, 3⟩ 19) ∧
    decodeTableWord 32 0x5F4034D4 = some (.unkOp20 ⟨true, 2000, 3⟩ 19) ∧
    decodeTableWord 32 0x5F4034D5 = some (.unkOp21 ⟨true, 2000, 3⟩ 19) ∧
    decodeTableWord 32 0x5F4034D6 = some (.unkOp22 ⟨true, 2000, 3⟩ 19) ∧
    decodeTableWord 32 0x5F4034D7 = some (.unkOp23 ⟨true, 2000, 3⟩ 19) ∧
    decodeTableWord 32 0x5F4034E2 = some (.unkOp34 ⟨true, 2000, 3⟩ 19) ∧
    decodeTableWord 32 0x5F4034E3 = some (.unkOp35 ⟨true, 2000, 3⟩ 19) ∧
    decodeTableWord 32 0x5F4034E4 = some (.unkOp36 ⟨true, 2000, 3⟩ 19) ∧
    decodeTableWord 32 0x5F4034E5 = some (.unkOp37 ⟨true, 2000, 3⟩ 19) ∧
    decodeTableWord 32 0x5F4034E6 = some (.unkOp38 ⟨true, 2000, 3⟩ 19) := by decide +kernel

/-- The numeral of 2^31 is no word; the bits above nbits are zero; 30 R93's word; the host's builder of 30 R92. -/
theorem test_words :
    decodeTableWord 32 0x80000000 = none ∧ decodeTableWord 12 0x1F400148 = some (.lda ⟨false, 0, 0⟩ 5) ∧
    (encode (.lda ⟨false, 2000, 0⟩ 5)).pack = 0x1F400148 ∧
    instrWordDefault 8 2000 0 = some (pos 31 16 0 5 8) ∧ instrWord 48 (-5) 1 2 = some (neg 0 5 1 2 48) ∧
    instrWord 64 0 0 0 = none ∧ instrWord 0 4096 0 0 = none ∧ instrWord 0 0 7 0 = none ∧ instrWord 0 0 0 64 = none := by
  decide +kernel

/-! ## Well-formedness: each check refuses an ill-formed term, and takes the nearest good one -/

theorem test_wellFormed_nopOp5 :
    Instr.wellFormed (.nopOp5 ⟨false, 0, 0⟩ 2) = false ∧
    Instr.wellFormed (.nopOp5 ⟨false, 0, 0⟩ 1) = true ∧ Instr.wellFormed (.nopOp5 ⟨false, 0, 0⟩ 3) = true := by decide

theorem test_wellFormed_nopOp39 :
    Instr.wellFormed (.nopOp39 ⟨false, 0, 0⟩ 0) = false ∧ Instr.wellFormed (.nopOp39 ⟨false, 0, 0⟩ 1) = false ∧
      Instr.wellFormed (.nopOp39 ⟨false, 0, 0⟩ 4) = false ∧ Instr.wellFormed (.nopOp39 ⟨false, 0, 0⟩ 9) = false ∧
    Instr.wellFormed (.nopOp39 ⟨false, 0, 0⟩ 2) = true ∧ Instr.wellFormed (.nopOp39 ⟨false, 0, 0⟩ 3) = true ∧
      Instr.wellFormed (.nopOp39 ⟨false, 0, 0⟩ 10) = true ∧ Instr.wellFormed (.nopOp39 ⟨false, 0, 0⟩ 63) = true := by
        decide

theorem test_wellFormed_nopOp40 :
    Instr.wellFormed (.nopOp40 ⟨false, 0, 0⟩ 0) = false ∧ Instr.wellFormed (.nopOp40 ⟨false, 0, 0⟩ 5) = false ∧
    Instr.wellFormed (.nopOp40 ⟨false, 0, 0⟩ 6) = true ∧ Instr.wellFormed (.nopOp40 ⟨false, 0, 0⟩ 63) = true := by decide

theorem test_wellFormed_nopOp41 :
    Instr.wellFormed (.nopOp41 ⟨false, 0, 0⟩ 0) = false ∧ Instr.wellFormed (.nopOp41 ⟨false, 0, 0⟩ 5) = false ∧
    Instr.wellFormed (.nopOp41 ⟨false, 0, 0⟩ 6) = true ∧ Instr.wellFormed (.nopOp41 ⟨false, 0, 0⟩ 63) = true := by decide

theorem test_wellFormed_nopOp42 :
    Instr.wellFormed (.nopOp42 ⟨false, 0, 0⟩ 0) = false ∧ Instr.wellFormed (.nopOp42 ⟨false, 0, 0⟩ 5) = false ∧
    Instr.wellFormed (.nopOp42 ⟨false, 0, 0⟩ 6) = true ∧ Instr.wellFormed (.nopOp42 ⟨false, 0, 0⟩ 63) = true := by decide

theorem test_wellFormed_nopOp43 :
    Instr.wellFormed (.nopOp43 ⟨false, 0, 0⟩ 0) = false ∧ Instr.wellFormed (.nopOp43 ⟨false, 0, 0⟩ 5) = false ∧
    Instr.wellFormed (.nopOp43 ⟨false, 0, 0⟩ 6) = true ∧ Instr.wellFormed (.nopOp43 ⟨false, 0, 0⟩ 63) = true := by decide

theorem test_wellFormed_nopOp44 :
    Instr.wellFormed (.nopOp44 ⟨false, 0, 0⟩ 0) = false ∧ Instr.wellFormed (.nopOp44 ⟨false, 0, 0⟩ 5) = false ∧
    Instr.wellFormed (.nopOp44 ⟨false, 0, 0⟩ 6) = true ∧ Instr.wellFormed (.nopOp44 ⟨false, 0, 0⟩ 63) = true := by decide

theorem test_wellFormed_nopOp45 :
    Instr.wellFormed (.nopOp45 ⟨false, 0, 0⟩ 0) = false ∧ Instr.wellFormed (.nopOp45 ⟨false, 0, 0⟩ 5) = false ∧
    Instr.wellFormed (.nopOp45 ⟨false, 0, 0⟩ 6) = true ∧ Instr.wellFormed (.nopOp45 ⟨false, 0, 0⟩ 63) = true := by decide

theorem test_wellFormed_nopOp46 :
    Instr.wellFormed (.nopOp46 ⟨false, 0, 0⟩ 0) = false ∧ Instr.wellFormed (.nopOp46 ⟨false, 0, 0⟩ 5) = false ∧
    Instr.wellFormed (.nopOp46 ⟨false, 0, 0⟩ 6) = true ∧ Instr.wellFormed (.nopOp46 ⟨false, 0, 0⟩ 63) = true := by decide

theorem test_wellFormed_nopOp47 :
    Instr.wellFormed (.nopOp47 ⟨false, 0, 0⟩ 0) = false ∧ Instr.wellFormed (.nopOp47 ⟨false, 0, 0⟩ 5) = false ∧
    Instr.wellFormed (.nopOp47 ⟨false, 0, 0⟩ 6) = true ∧ Instr.wellFormed (.nopOp47 ⟨false, 0, 0⟩ 63) = true := by decide

theorem test_wellFormed_nopOp48 :
    Instr.wellFormed (.nopOp48 ⟨false, 0, 0⟩ 0) = false ∧ Instr.wellFormed (.nopOp48 ⟨false, 0, 0⟩ 3) = false ∧
    Instr.wellFormed (.nopOp48 ⟨false, 0, 0⟩ 4) = true ∧ Instr.wellFormed (.nopOp48 ⟨false, 0, 0⟩ 63) = true := by decide

theorem test_wellFormed_nopOp49 :
    Instr.wellFormed (.nopOp49 ⟨false, 0, 0⟩ 0) = false ∧ Instr.wellFormed (.nopOp49 ⟨false, 0, 0⟩ 3) = false ∧
    Instr.wellFormed (.nopOp49 ⟨false, 0, 0⟩ 4) = true ∧ Instr.wellFormed (.nopOp49 ⟨false, 0, 0⟩ 63) = true := by decide

theorem test_wellFormed_nopOp50 :
    Instr.wellFormed (.nopOp50 ⟨false, 0, 0⟩ 0) = false ∧ Instr.wellFormed (.nopOp50 ⟨false, 0, 0⟩ 3) = false ∧
    Instr.wellFormed (.nopOp50 ⟨false, 0, 0⟩ 4) = true ∧ Instr.wellFormed (.nopOp50 ⟨false, 0, 0⟩ 63) = true := by decide

theorem test_wellFormed_nopOp51 :
    Instr.wellFormed (.nopOp51 ⟨false, 0, 0⟩ 0) = false ∧ Instr.wellFormed (.nopOp51 ⟨false, 0, 0⟩ 3) = false ∧
    Instr.wellFormed (.nopOp51 ⟨false, 0, 0⟩ 4) = true ∧ Instr.wellFormed (.nopOp51 ⟨false, 0, 0⟩ 63) = true := by decide

theorem test_wellFormed_nopOp52 :
    Instr.wellFormed (.nopOp52 ⟨false, 0, 0⟩ 0) = false ∧ Instr.wellFormed (.nopOp52 ⟨false, 0, 0⟩ 3) = false ∧
    Instr.wellFormed (.nopOp52 ⟨false, 0, 0⟩ 4) = true ∧ Instr.wellFormed (.nopOp52 ⟨false, 0, 0⟩ 63) = true := by decide

theorem test_wellFormed_nopOp53 :
    Instr.wellFormed (.nopOp53 ⟨false, 0, 0⟩ 0) = false ∧ Instr.wellFormed (.nopOp53 ⟨false, 0, 0⟩ 3) = false ∧
    Instr.wellFormed (.nopOp53 ⟨false, 0, 0⟩ 4) = true ∧ Instr.wellFormed (.nopOp53 ⟨false, 0, 0⟩ 63) = true := by decide

theorem test_wellFormed_nopOp54 :
    Instr.wellFormed (.nopOp54 ⟨false, 0, 0⟩ 0) = false ∧ Instr.wellFormed (.nopOp54 ⟨false, 0, 0⟩ 3) = false ∧
    Instr.wellFormed (.nopOp54 ⟨false, 0, 0⟩ 4) = true ∧ Instr.wellFormed (.nopOp54 ⟨false, 0, 0⟩ 63) = true := by decide

theorem test_wellFormed_nopOp55 :
    Instr.wellFormed (.nopOp55 ⟨false, 0, 0⟩ 0) = false ∧ Instr.wellFormed (.nopOp55 ⟨false, 0, 0⟩ 3) = false ∧
    Instr.wellFormed (.nopOp55 ⟨false, 0, 0⟩ 4) = true ∧ Instr.wellFormed (.nopOp55 ⟨false, 0, 0⟩ 63) = true := by decide

/-! ## One step: vectors of 95 L2.3 -/

/-- ADD 1000, -max + -1 truncate (95 VA6). -/
theorem test_VA6 : gives 0x0FA00141 (hostStore (State.reset.setReg .a (neg 63 63 63 63 63)) 1000 (neg 0 0 0 0 1))
    (fun s => (s.setReg .a (neg 0 0 0 0 0)).setPc 11) = true := by decide +kernel

/-- ADD 1000(1:2) field (95 VA8). -/
theorem test_VA8 : gives 0x0FA00281 (hostStore (State.reset.setReg .a (pos 0 0 0 0 1)) 1000 (neg 1 3 7 15 31))
    (fun s => (s.setReg .a (pos 0 0 0 1 4)).setPc 11) = true := by decide +kernel

/-- SUB 1000, A-A keep (95 VA13). -/
theorem test_VA13 : gives 0x0FA00142 (hostStore ((withParams .truncate .keep .signOfA).setReg .a (neg 0 0 0 0 7)) 1000
    (neg 0 0 0 0 7))
    (fun s => (s.setReg .a (neg 0 0 0 0 0)).setPc 11) = true := by decide +kernel

/-- SUB 1000, -max - 1 (95 VA14). -/
theorem test_VA14 : gives 0x0FA00142 (hostStore (State.reset.setReg .a (neg 63 63 63 63 63)) 1000 (pos 0 0 0 0 1))
    (fun s => (s.setReg .a (neg 0 0 0 0 0)).setPc 11) = true := by decide +kernel

/-- MUL 1000, 1e9 x -10 (95 VA16). -/
theorem test_VA16 : gives 0x0FA00143 (hostStore (State.reset.setReg .a (pos 59 38 44 40 0)) 1000 (neg 0 0 0 0 10))
    (fun s => ((s.setReg .a (neg 0 0 0 0 9)).setReg .x (neg 20 2 62 16 0)).setPc 11) = true := by decide +kernel

/-- MUL 1000, -3 x +0 (95 VA18). -/
theorem test_VA18 : gives 0x0FA00143 (hostStore ((State.reset.setReg .a (neg 0 0 0 0 3)).setReg .x (pos 0 0 0 1 35))
    1000 (pos 0 0 0 0 0))
    (fun s => ((s.setReg .a (pos 0 0 0 0 0)).setReg .x (pos 0 0 0 0 0)).setPc 11) = true := by decide +kernel

/-- DIV 1000, signs differ sign_of_X (95 VA26). -/
theorem test_VA26 : gives 0x0FA00144 (hostStore (((withParams .truncate .positive .signOfX).setReg .a (pos 0 0 0 0
    0)).setReg .x (neg 0 0 0 1 36)) 1000 (pos 0 0 0 0 30))
    (fun s => ((s.setReg .a (neg 0 0 0 0 3)).setReg .x (neg 0 0 0 0 10)).setPc 11) = true := by decide +kernel

/-- DIV 1000, qovf edge (95 VA32). -/
theorem test_VA32 : gives 0x0FA00144 (hostStore ((State.reset.setReg .a (pos 0 0 0 0 4)).setReg .x (pos 63 63 63 63
    63)) 1000 (pos 0 0 0 0 5))
    (fun s => ((s.setReg .a (pos 63 63 63 63 63)).setReg .x (pos 0 0 0 0 4)).setPc 11) = true := by decide +kernel

/-- HLT with I=9 (95 VH2). -/
theorem test_VH2 : gives 0x3FFC9085 State.reset
    (fun s => (s.setStatus .halted)) = true := by decide +kernel

/-- opcode 5 F=0 (NUM) (95 VH3). -/
theorem test_VH3 : gives 0x00000005 State.reset
    (fun s => s.setPc 11) = true := by decide +kernel

/-- LDA 1000(0:2) (95 VL3). -/
theorem test_VL3 : gives 0x0FA00088 (hostStore State.reset 1000 (neg 1 3 7 15 31))
    (fun s => (s.setReg .a (neg 0 0 0 1 3)).setPc 11) = true := by decide +kernel

/-- LDA 1000(0:0) (95 VL4). -/
theorem test_VL4 : gives 0x0FA00008 (hostStore State.reset 1000 (neg 1 3 7 15 31))
    (fun s => (s.setReg .a (neg 0 0 0 0 0)).setPc 11) = true := by decide +kernel

/-- LDX 1000(4:5) (95 VL5). -/
theorem test_VL5 : gives 0x0FA0094F (hostStore State.reset 1000 (neg 1 3 7 15 31))
    (fun s => (s.setReg .x (pos 0 0 0 15 31)).setPc 11) = true := by decide +kernel

/-- LD1 1000 (95 VL6). -/
theorem test_VL6 : gives 0x0FA00149 (hostStore State.reset 1000 (neg 1 3 7 15 31))
    (fun s => (s.setReg .i1 (neg 1 3 7 15 31)).setPc 11) = true := by decide +kernel

/-- LD3 1000,3 (self index) (95 VL7). -/
theorem test_VL7 : gives 0x0FA0314B (hostStore (State.reset.setReg .i3 (pos 0 0 0 0 2)) 1002 (pos 0 0 0 1 13))
    (fun s => (s.setReg .i3 (pos 0 0 0 1 13)).setPc 11) = true := by decide +kernel

/-- STA 2000(2:3) (95 VS1). -/
theorem test_VS1 : gives 0x1F4004D8 (hostStore (State.reset.setReg .a (neg 6 7 8 4 5)) 2000 (pos 10 20 30 40 50))
    (fun s => (hostStore s 2000 (pos 10 4 5 40 50)).setPc 11) = true := by decide +kernel

/-- STA 2000(5:5) (95 VS4). -/
theorem test_VS4 : gives 0x1F400B58 (hostStore (State.reset.setReg .a (neg 6 7 8 4 5)) 2000 (pos 10 20 30 40 50))
    (fun s => (hostStore s 2000 (pos 10 20 30 40 5)).setPc 11) = true := by decide +kernel

/-- ST2 2000(0:2) (95 VS5). -/
theorem test_VS5 : gives 0x1F40009A (hostStore (State.reset.setReg .i2 (neg 0 0 0 15 40)) 2000 (pos 10 20 30 40 50))
    (fun s => (hostStore s 2000 (neg 15 40 30 40 50)).setPc 11) = true := by decide +kernel

/-- STX 2000(1:1) (95 VS6). -/
theorem test_VS6 : gives 0x1F40025F (hostStore (State.reset.setReg .x (pos 0 0 0 0 63)) 2000 (pos 10 20 30 40 50))
    (fun s => (hostStore s 2000 (pos 63 20 30 40 50)).setPc 11) = true := by decide +kernel

/-- STJ 2000(0:2) (95 VS7). -/
theorem test_VS7 : gives 0x1F4000A0 (hostStore (State.reset.setReg .j (pos 0 0 0 0 12)) 2000 (pos 10 20 30 40 50))
    (fun s => (hostStore s 2000 (pos 0 12 30 40 50)).setPc 11) = true := by decide +kernel

/-- STZ 2000(2:5) (95 VS9). -/
theorem test_VS9 : gives 0x1F400561 (hostStore State.reset 2000 (pos 10 20 30 40 50))
    (fun s => (hostStore s 2000 (pos 10 0 0 0 0)).setPc 11) = true := by decide +kernel

/-- JSJ 300 (95 VJ2). -/
theorem test_VJ2 : gives 0x04B00067 (State.reset.setReg .j (pos 0 0 0 1 35))
    (fun s => s.setPc 300) = true := by decide +kernel

/-- JL 300, CI=LESS (95 VJ3). -/
theorem test_VJ3 : gives 0x04B00127 (State.reset.setCI .less)
    (fun s => (s.setReg .j (pos 0 0 0 0 11)).setPc 300) = true := by decide +kernel

/-- JL 300, CI=EQUAL (95 VJ4). -/
theorem test_VJ4 : gives 0x04B00127 State.reset
    (fun s => s.setPc 11) = true := by decide +kernel

/-- JE 300, CI=EQUAL (95 VJ7). -/
theorem test_VJ7 : gives 0x04B00167 State.reset
    (fun s => (s.setReg .j (pos 0 0 0 0 11)).setPc 300) = true := by decide +kernel

/-- JE 300, CI=GREATER (95 VJ8). -/
theorem test_VJ8 : gives 0x04B00167 (State.reset.setCI .greater)
    (fun s => s.setPc 11) = true := by decide +kernel

/-- JG 300, CI=EQUAL (95 VJ10). -/
theorem test_VJ10 : gives 0x04B001A7 State.reset
    (fun s => s.setPc 11) = true := by decide +kernel

/-- JG 300, CI=GREATER (95 VJ11). -/
theorem test_VJ11 : gives 0x04B001A7 (State.reset.setCI .greater)
    (fun s => (s.setReg .j (pos 0 0 0 0 11)).setPc 300) = true := by decide +kernel

/-- JGE 300, CI=LESS (95 VJ12). -/
theorem test_VJ12 : gives 0x04B001E7 (State.reset.setCI .less)
    (fun s => s.setPc 11) = true := by decide +kernel

/-- JGE 300, CI=EQUAL (95 VJ13). -/
theorem test_VJ13 : gives 0x04B001E7 State.reset
    (fun s => (s.setReg .j (pos 0 0 0 0 11)).setPc 300) = true := by decide +kernel

/-- JNE 300, CI=LESS (95 VJ15). -/
theorem test_VJ15 : gives 0x04B00227 (State.reset.setCI .less)
    (fun s => (s.setReg .j (pos 0 0 0 0 11)).setPc 300) = true := by decide +kernel

/-- JNE 300, CI=EQUAL (95 VJ16). -/
theorem test_VJ16 : gives 0x04B00227 State.reset
    (fun s => s.setPc 11) = true := by decide +kernel

/-- JLE 300, CI=EQUAL (95 VJ19). -/
theorem test_VJ19 : gives 0x04B00267 State.reset
    (fun s => (s.setReg .j (pos 0 0 0 0 11)).setPc 300) = true := by decide +kernel

/-- JLE 300, CI=GREATER (95 VJ20). -/
theorem test_VJ20 : gives 0x04B00267 (State.reset.setCI .greater)
    (fun s => s.setPc 11) = true := by decide +kernel

/-- JOV 300 (F=2) no-op (95 VJ21). -/
theorem test_VJ21 : gives 0x04B000A7 State.reset
    (fun s => s.setPc 11) = true := by decide +kernel

/-- JMP 300,1 indexed (95 VJ24). -/
theorem test_VJ24 : gives 0x04B01027 (State.reset.setReg .i1 (neg 0 0 0 0 50))
    (fun s => (s.setReg .j (pos 0 0 0 0 11)).setPc 250) = true := by decide +kernel

/-- JMP 4000 (faults at next fetch) (95 VJ25). -/
theorem test_VJ25 : gives 0x3E800027 State.reset
    (fun s => (s.setReg .j (pos 0 0 0 0 11)).setPc 4000) = true := by decide +kernel

/-- JAN 300, A=[- 0 0 0 0 5] (95 VR1). -/
theorem test_VR1 : gives 0x04B00028 (State.reset.setReg .a (neg 0 0 0 0 5))
    (fun s => (s.setReg .j (pos 0 0 0 0 11)).setPc 300) = true := by decide +kernel

/-- JAN 300, A=[- 0 0 0 0 0] (95 VR2). -/
theorem test_VR2 : gives 0x04B00028 (State.reset.setReg .a (neg 0 0 0 0 0))
    (fun s => s.setPc 11) = true := by decide +kernel

/-- JAZ 300, A=[- 0 0 0 0 0] (95 VR6). -/
theorem test_VR6 : gives 0x04B00068 (State.reset.setReg .a (neg 0 0 0 0 0))
    (fun s => (s.setReg .j (pos 0 0 0 0 11)).setPc 300) = true := by decide +kernel

/-- JAZ 300, A=[+ 0 0 0 0 5] (95 VR8). -/
theorem test_VR8 : gives 0x04B00068 (State.reset.setReg .a (pos 0 0 0 0 5))
    (fun s => s.setPc 11) = true := by decide +kernel

/-- JAP 300, A=[+ 0 0 0 0 0] (95 VR11). -/
theorem test_VR11 : gives 0x04B000A8 (State.reset.setReg .a (pos 0 0 0 0 0))
    (fun s => s.setPc 11) = true := by decide +kernel

/-- JAP 300, A=[+ 0 0 0 0 5] (95 VR12). -/
theorem test_VR12 : gives 0x04B000A8 (State.reset.setReg .a (pos 0 0 0 0 5))
    (fun s => (s.setReg .j (pos 0 0 0 0 11)).setPc 300) = true := by decide +kernel

/-- JANN 300, A=[- 0 0 0 0 5] (95 VR13). -/
theorem test_VR13 : gives 0x04B000E8 (State.reset.setReg .a (neg 0 0 0 0 5))
    (fun s => s.setPc 11) = true := by decide +kernel

/-- JANN 300, A=[- 0 0 0 0 0] (95 VR14). -/
theorem test_VR14 : gives 0x04B000E8 (State.reset.setReg .a (neg 0 0 0 0 0))
    (fun s => (s.setReg .j (pos 0 0 0 0 11)).setPc 300) = true := by decide +kernel

/-- JANZ 300, A=[- 0 0 0 0 5] (95 VR17). -/
theorem test_VR17 : gives 0x04B00128 (State.reset.setReg .a (neg 0 0 0 0 5))
    (fun s => (s.setReg .j (pos 0 0 0 0 11)).setPc 300) = true := by decide +kernel

/-- JANZ 300, A=[+ 0 0 0 0 0] (95 VR19). -/
theorem test_VR19 : gives 0x04B00128 (State.reset.setReg .a (pos 0 0 0 0 0))
    (fun s => s.setPc 11) = true := by decide +kernel

/-- JANP 300, A=[+ 0 0 0 0 0] (95 VR23). -/
theorem test_VR23 : gives 0x04B00168 (State.reset.setReg .a (pos 0 0 0 0 0))
    (fun s => (s.setReg .j (pos 0 0 0 0 11)).setPc 300) = true := by decide +kernel

/-- JANP 300, A=[+ 0 0 0 0 5] (95 VR24). -/
theorem test_VR24 : gives 0x04B00168 (State.reset.setReg .a (pos 0 0 0 0 5))
    (fun s => s.setPc 11) = true := by decide +kernel

/-- J3P 300 (95 VR25). -/
theorem test_VR25 : gives 0x04B000AB (State.reset.setReg .i3 (pos 0 0 0 0 1))
    (fun s => (s.setReg .j (pos 0 0 0 0 11)).setPc 300) = true := by decide +kernel

/-- JXZ 300 (95 VR26). -/
theorem test_VR26 : gives 0x04B0006F (State.reset.setReg .x (neg 0 0 0 0 0))
    (fun s => (s.setReg .j (pos 0 0 0 0 11)).setPc 300) = true := by decide +kernel

/-- J1NZ 0,1 self index (95 VR27). -/
theorem test_VR27 : gives 0x00001129 (State.reset.setReg .i1 (pos 0 0 0 3 8))
    (fun s => (s.setReg .j (pos 0 0 0 0 11)).setPc 200) = true := by decide +kernel

/-- JAN F=6 no-op (95 VR28). -/
theorem test_VR28 : gives 0x04B001A8 (State.reset.setReg .a (neg 0 0 0 0 5))
    (fun s => s.setPc 11) = true := by decide +kernel

/-- INCA 5 (95 VT1). -/
theorem test_VT1 : gives 0x00140030 (State.reset.setReg .a (pos 0 0 0 0 10))
    (fun s => (s.setReg .a (pos 0 0 0 0 15)).setPc 11) = true := by decide +kernel

/-- DECA 5 (95 VT2). -/
theorem test_VT2 : gives 0x00140070 (State.reset.setReg .a (pos 0 0 0 0 10))
    (fun s => (s.setReg .a (pos 0 0 0 0 5)).setPc 11) = true := by decide +kernel

/-- ENTA -0 (95 VT6). -/
theorem test_VT6 : gives 0x400000B0 (State.reset.setReg .a (pos 0 0 0 0 10))
    (fun s => (s.setReg .a (neg 0 0 0 0 0)).setPc 11) = true := by decide +kernel

/-- ENNA 0 (95 VT7). -/
theorem test_VT7 : gives 0x000000F0 (State.reset.setReg .a (pos 0 0 0 0 10))
    (fun s => (s.setReg .a (neg 0 0 0 0 0)).setPc 11) = true := by decide +kernel

/-- ENTA -5,1 (95 VT9). -/
theorem test_VT9 : gives 0x401410B0 (State.reset.setReg .i1 (pos 0 0 0 0 5))
    (fun s => (s.setReg .a (neg 0 0 0 0 0)).setPc 11) = true := by decide +kernel

/-- ENNA -5,1 (95 VT11). -/
theorem test_VT11 : gives 0x401410F0 ((State.reset.setReg .a (pos 0 0 0 0 10)).setReg .i1 (pos 0 0 0 0 5))
    (fun s => (s.setReg .a (pos 0 0 0 0 0)).setPc 11) = true := by decide +kernel

/-- INCA 5 -> 0 (95 VT12). -/
theorem test_VT12 : gives 0x00140030 (State.reset.setReg .a (neg 0 0 0 0 5))
    (fun s => (s.setReg .a (pos 0 0 0 0 0)).setPc 11) = true := by decide +kernel

/-- DEC1 1 (95 VT14). -/
theorem test_VT14 : gives 0x00040071 (State.reset.setReg .i1 (pos 0 0 0 0 1))
    (fun s => (s.setReg .i1 (pos 0 0 0 0 0)).setPc 11) = true := by decide +kernel

/-- INC1 0,1 (doubles) (95 VT15). -/
theorem test_VT15 : gives 0x00001031 (State.reset.setReg .i1 (pos 0 0 0 0 21))
    (fun s => (s.setReg .i1 (pos 0 0 0 0 42)).setPc 11) = true := by decide +kernel

/-- ENT2 0,3 (95 VT16). -/
theorem test_VT16 : gives 0x000030B2 (State.reset.setReg .i3 (neg 0 0 0 0 9))
    (fun s => (s.setReg .i2 (neg 0 0 0 0 9)).setPc 11) = true := by decide +kernel

/-- ENN6 100 (95 VT17). -/
theorem test_VT17 : gives 0x019000F6 State.reset
    (fun s => (s.setReg .i6 (neg 0 0 0 1 36)).setPc 11) = true := by decide +kernel

/-- ENTX 4095 (95 VT18). -/
theorem test_VT18 : gives 0x3FFC00B7 State.reset
    (fun s => (s.setReg .x (pos 0 0 0 63 63)).setPc 11) = true := by decide +kernel

/-- INCX 1 at max (95 VT19). -/
theorem test_VT19 : gives 0x00040037 (State.reset.setReg .x (pos 63 63 63 63 63))
    (fun s => (s.setReg .x (pos 0 0 0 0 0)).setPc 11) = true := by decide +kernel

/-- INCA F=4 no-op (95 VT23). -/
theorem test_VT23 : gives 0x00140130 (State.reset.setReg .a (pos 0 0 0 0 10))
    (fun s => s.setPc 11) = true := by decide +kernel

/-- CMPA 1000, +0 vs -0 (95 VC2). -/
theorem test_VC2 : gives 0x0FA00178 (hostStore ((State.reset.setReg .a (pos 0 0 0 0 0)).setCI .less) 1000 (neg 0 0 0 0 0))
    (fun s => (s.setCI .equal).setPc 11) = true := by decide +kernel

/-- CMPA 1000(1:5), -5 vs 3 (95 VC4). -/
theorem test_VC4 : gives 0x0FA00378 (hostStore (State.reset.setReg .a (neg 0 0 0 0 5)) 1000 (pos 0 0 0 0 3))
    (fun s => (s.setCI .greater).setPc 11) = true := by decide +kernel

/-- CMPX 1000(4:5) (95 VC6). -/
theorem test_VC6 : gives 0x0FA0097F (hostStore (State.reset.setReg .x (pos 9 9 9 1 2)) 1000 (neg 0 0 0 1 3))
    (fun s => (s.setCI .less).setPc 11) = true := by decide +kernel

/-- CMP1 1000 (95 VC7). -/
theorem test_VC7 : gives 0x0FA00179 (hostStore (State.reset.setReg .i1 (neg 0 0 0 0 7)) 1000 (neg 0 0 0 0 8))
    (fun s => (s.setCI .greater).setPc 11) = true := by decide +kernel

/-- CMP6 1000,6 (95 VC8). -/
theorem test_VC8 : gives 0x0FA0617E (hostStore ((State.reset.setReg .i6 (pos 0 0 0 0 3)).setCI .greater) 1003 (pos 0 0
    0 0 3))
    (fun s => (s.setCI .equal).setPc 11) = true := by decide +kernel

/-- word +0 (95 VU1). -/
theorem test_VU1 : gives 0x00000000 State.reset
    (fun s => s.setPc 11) = true := by decide +kernel

/-- opcode 6 with I=63 (95 VU2). -/
theorem test_VU2 : gives 0x3FFFFFC6 State.reset
    (fun s => s.setPc 11) = true := by decide +kernel

/-- opcode 38 (95 VU4). -/
theorem test_VU4 : gives 0x7FFC7226 State.reset
    (fun s => s.setPc 11) = true := by decide +kernel

/-- The fault kinds and the order of the checks (95 VA7, VA30, VA31, VL9, VL12, VL14, VL15, VS12, VR29, VT22). -/
theorem test_faults :
    faults 0x0FA00141 (hostStore ((withParams .fault .positive .signOfA).setReg .a (pos 63 63 63 63 63)) 1000 (pos 0 0
      0 0 1)) .arithmeticOverflow = true ∧
    faults 0x0FA00144 (hostStore ((State.reset.setReg .a (pos 0 0 0 0 0)).setReg .x (pos 0 0 0 1 36)) 1000 (neg 0 0 0 0
      0)) .divideByZero = true ∧
    faults 0x0FA00144 (hostStore ((State.reset.setReg .a (pos 0 0 0 0 5)).setReg .x (pos 0 0 0 0 0)) 1000 (pos 0 0 0 0
      5)) .quotientOverflow = true ∧
    faults 0x0FA00208 (hostStore State.reset 1000 (neg 1 3 7 15 31)) (.fieldSpecInvalid 8) = true ∧
    faults 0x40040148 State.reset (.memoryOutOfRange (-1)) = true ∧
    faults 0x0FA07188 State.reset (.indexInvalid 7) = true ∧
    faults 0x3E800208 State.reset (.fieldSpecInvalid 8) = true ∧
    faults 0x3E800158 (State.reset.setReg .a (pos 0 0 0 0 1)) (.memoryOutOfRange 4000) = true ∧
    faults 0x04B0806A (State.reset.setReg .i2 (pos 0 0 0 0 5)) (.indexInvalid 8) = true ∧
    faults 0x000410B0 (((withParams .fault .positive .signOfA).setReg .a (pos 0 0 0 0 10)).setReg .i1 (pos 63 63 63 63
      63)) .arithmeticOverflow = true := by decide +kernel

/-! ## One step: each register of a family (hand calculation from the family's rules) -/

/-- A state whose nine registers hold 1 to 9 in turn, M[1000] = [− 1 3 7 15 31]. -/
def nine : State :=
  hostStore (((((((((State.reset.setReg .a (pos 0 0 0 0 1)).setReg .i1 (pos 0 0 0 0 2)).setReg .i2 (pos 0 0 0 0 3)).setReg
    .i3 (pos 0 0 0 0 4)).setReg .i4 (pos 0 0 0 0 5)).setReg .i5 (pos 0 0 0 0 6)).setReg .i6 (pos 0 0 0 0 7)).setReg
    .x (pos 0 0 0 0 8)).setReg .j (pos 0 0 0 0 9)) 1000 (neg 1 3 7 15 31)

/-- LD of each register at 1000(4:5): bytes 15, 31, the sign + (42 R130). -/
theorem test_load_each :
    gives 0x0FA00948 nine (fun s => (s.setReg .a (pos 0 0 0 15 31)).setPc 11) = true ∧
    gives 0x0FA00949 nine (fun s => (s.setReg .i1 (pos 0 0 0 15 31)).setPc 11) = true ∧
    gives 0x0FA0094A nine (fun s => (s.setReg .i2 (pos 0 0 0 15 31)).setPc 11) = true ∧
    gives 0x0FA0094B nine (fun s => (s.setReg .i3 (pos 0 0 0 15 31)).setPc 11) = true ∧
    gives 0x0FA0094C nine (fun s => (s.setReg .i4 (pos 0 0 0 15 31)).setPc 11) = true ∧
    gives 0x0FA0094D nine (fun s => (s.setReg .i5 (pos 0 0 0 15 31)).setPc 11) = true ∧
    gives 0x0FA0094E nine (fun s => (s.setReg .i6 (pos 0 0 0 15 31)).setPc 11) = true ∧
    gives 0x0FA0094F nine (fun s => (s.setReg .x (pos 0 0 0 15 31)).setPc 11) = true := by decide +kernel

/-- ST of each source at 1000(1:1): the low byte of the source into byte 4, the sign kept (43 R150). -/
theorem test_store_each :
    gives 0x0FA00258 nine (fun s => (hostStore s 1000 (neg 1 3 7 15 31)).setPc 11) = true ∧
    gives 0x0FA00259 nine (fun s => (hostStore s 1000 (neg 2 3 7 15 31)).setPc 11) = true ∧
    gives 0x0FA0025A nine (fun s => (hostStore s 1000 (neg 3 3 7 15 31)).setPc 11) = true ∧
    gives 0x0FA0025B nine (fun s => (hostStore s 1000 (neg 4 3 7 15 31)).setPc 11) = true ∧
    gives 0x0FA0025C nine (fun s => (hostStore s 1000 (neg 5 3 7 15 31)).setPc 11) = true ∧
    gives 0x0FA0025D nine (fun s => (hostStore s 1000 (neg 6 3 7 15 31)).setPc 11) = true ∧
    gives 0x0FA0025E nine (fun s => (hostStore s 1000 (neg 7 3 7 15 31)).setPc 11) = true ∧
    gives 0x0FA0025F nine (fun s => (hostStore s 1000 (neg 8 3 7 15 31)).setPc 11) = true ∧
    gives 0x0FA00260 nine (fun s => (hostStore s 1000 (neg 9 3 7 15 31)).setPc 11) = true ∧
    gives 0x0FA00261 nine (fun s => (hostStore s 1000 (neg 0 3 7 15 31)).setPc 11) = true := by decide +kernel

/-- CMP of each register at 1000(5:5), 31 there: each of 1 to 8 is less (47 R300). -/
theorem test_compare_each :
    gives 0x0FA00B78 nine (fun s => (s.setCI .less).setPc 11) = true ∧
    gives 0x0FA00B79 nine (fun s => (s.setCI .less).setPc 11) = true ∧
    gives 0x0FA00B7A nine (fun s => (s.setCI .less).setPc 11) = true ∧
    gives 0x0FA00B7B nine (fun s => (s.setCI .less).setPc 11) = true ∧
    gives 0x0FA00B7C nine (fun s => (s.setCI .less).setPc 11) = true ∧
    gives 0x0FA00B7D nine (fun s => (s.setCI .less).setPc 11) = true ∧
    gives 0x0FA00B7E nine (fun s => (s.setCI .less).setPc 11) = true ∧
    gives 0x0FA00B7F nine (fun s => (s.setCI .less).setPc 11) = true := by decide +kernel

/-- The jumps of sub-mode 0 read their own register: taken while every other register fails the predicate (45 R200). -/
theorem test_jump_reg_n :
    gives 0x04B00028 (nine.setReg .a (neg 0 0 0 0 1)) (fun s => (s.setReg .j (pos 0 0 0 0 11)).setPc 300) = true ∧
    gives 0x04B00029 (nine.setReg .i1 (neg 0 0 0 0 1)) (fun s => (s.setReg .j (pos 0 0 0 0 11)).setPc 300) = true ∧
    gives 0x04B0002A (nine.setReg .i2 (neg 0 0 0 0 1)) (fun s => (s.setReg .j (pos 0 0 0 0 11)).setPc 300) = true ∧
    gives 0x04B0002B (nine.setReg .i3 (neg 0 0 0 0 1)) (fun s => (s.setReg .j (pos 0 0 0 0 11)).setPc 300) = true ∧
    gives 0x04B0002C (nine.setReg .i4 (neg 0 0 0 0 1)) (fun s => (s.setReg .j (pos 0 0 0 0 11)).setPc 300) = true ∧
    gives 0x04B0002D (nine.setReg .i5 (neg 0 0 0 0 1)) (fun s => (s.setReg .j (pos 0 0 0 0 11)).setPc 300) = true ∧
    gives 0x04B0002E (nine.setReg .i6 (neg 0 0 0 0 1)) (fun s => (s.setReg .j (pos 0 0 0 0 11)).setPc 300) = true ∧
    gives 0x04B0002F (nine.setReg .x (neg 0 0 0 0 1)) (fun s => (s.setReg .j (pos 0 0 0 0 11)).setPc 300) = true
      := by decide +kernel

/-- The jumps of sub-mode 1 read their own register: taken while every other register fails the predicate (45 R200). -/
theorem test_jump_reg_z :
    gives 0x04B00068 (nine.setReg .a (neg 0 0 0 0 0)) (fun s => (s.setReg .j (pos 0 0 0 0 11)).setPc 300) = true ∧
    gives 0x04B00069 (nine.setReg .i1 (neg 0 0 0 0 0)) (fun s => (s.setReg .j (pos 0 0 0 0 11)).setPc 300) = true ∧
    gives 0x04B0006A (nine.setReg .i2 (neg 0 0 0 0 0)) (fun s => (s.setReg .j (pos 0 0 0 0 11)).setPc 300) = true ∧
    gives 0x04B0006B (nine.setReg .i3 (neg 0 0 0 0 0)) (fun s => (s.setReg .j (pos 0 0 0 0 11)).setPc 300) = true ∧
    gives 0x04B0006C (nine.setReg .i4 (neg 0 0 0 0 0)) (fun s => (s.setReg .j (pos 0 0 0 0 11)).setPc 300) = true ∧
    gives 0x04B0006D (nine.setReg .i5 (neg 0 0 0 0 0)) (fun s => (s.setReg .j (pos 0 0 0 0 11)).setPc 300) = true ∧
    gives 0x04B0006E (nine.setReg .i6 (neg 0 0 0 0 0)) (fun s => (s.setReg .j (pos 0 0 0 0 11)).setPc 300) = true ∧
    gives 0x04B0006F (nine.setReg .x (neg 0 0 0 0 0)) (fun s => (s.setReg .j (pos 0 0 0 0 11)).setPc 300) = true
      := by decide +kernel

/-- The jumps of sub-mode 2 read their own register: taken while every other register fails the predicate (45 R200). -/
theorem test_jump_reg_p :
    gives 0x04B000A8 (State.reset.setReg .a (pos 1 0 0 0 0)) (fun s => (s.setReg .j (pos 0 0 0 0 11)).setPc 300) = true ∧
    gives 0x04B000A9 (State.reset.setReg .i1 (pos 1 0 0 0 0)) (fun s => (s.setReg .j (pos 0 0 0 0 11)).setPc 300) = true ∧
    gives 0x04B000AA (State.reset.setReg .i2 (pos 1 0 0 0 0)) (fun s => (s.setReg .j (pos 0 0 0 0 11)).setPc 300) = true ∧
    gives 0x04B000AB (State.reset.setReg .i3 (pos 1 0 0 0 0)) (fun s => (s.setReg .j (pos 0 0 0 0 11)).setPc 300) = true ∧
    gives 0x04B000AC (State.reset.setReg .i4 (pos 1 0 0 0 0)) (fun s => (s.setReg .j (pos 0 0 0 0 11)).setPc 300) = true ∧
    gives 0x04B000AD (State.reset.setReg .i5 (pos 1 0 0 0 0)) (fun s => (s.setReg .j (pos 0 0 0 0 11)).setPc 300) = true ∧
    gives 0x04B000AE (State.reset.setReg .i6 (pos 1 0 0 0 0)) (fun s => (s.setReg .j (pos 0 0 0 0 11)).setPc 300) = true ∧
    gives 0x04B000AF (State.reset.setReg .x (pos 1 0 0 0 0)) (fun s => (s.setReg .j (pos 0 0 0 0 11)).setPc 300) = true
      := by decide +kernel

/-- Every register −1. -/
def minus : State :=
  State.construct .default ⟨neg 0 0 0 0 1, neg 0 0 0 0 1, neg 0 0 0 0 1, neg 0 0 0 0 1, neg 0 0 0 0 1, neg 0 0 0 0 1,
    neg 0 0 0 0 1, neg 0 0 0 0 1, neg 0 0 0 0 1⟩ 0

/-- The jumps of sub-mode 3 read their own register: taken while every other register fails the predicate (45 R200). -/
theorem test_jump_reg_nn :
    gives 0x04B000E8 (minus.setReg .a (pos 0 0 0 0 0)) (fun s => (s.setReg .j (pos 0 0 0 0 11)).setPc 300) = true ∧
    gives 0x04B000E9 (minus.setReg .i1 (pos 0 0 0 0 0)) (fun s => (s.setReg .j (pos 0 0 0 0 11)).setPc 300) = true ∧
    gives 0x04B000EA (minus.setReg .i2 (pos 0 0 0 0 0)) (fun s => (s.setReg .j (pos 0 0 0 0 11)).setPc 300) = true ∧
    gives 0x04B000EB (minus.setReg .i3 (pos 0 0 0 0 0)) (fun s => (s.setReg .j (pos 0 0 0 0 11)).setPc 300) = true ∧
    gives 0x04B000EC (minus.setReg .i4 (pos 0 0 0 0 0)) (fun s => (s.setReg .j (pos 0 0 0 0 11)).setPc 300) = true ∧
    gives 0x04B000ED (minus.setReg .i5 (pos 0 0 0 0 0)) (fun s => (s.setReg .j (pos 0 0 0 0 11)).setPc 300) = true ∧
    gives 0x04B000EE (minus.setReg .i6 (pos 0 0 0 0 0)) (fun s => (s.setReg .j (pos 0 0 0 0 11)).setPc 300) = true ∧
    gives 0x04B000EF (minus.setReg .x (pos 0 0 0 0 0)) (fun s => (s.setReg .j (pos 0 0 0 0 11)).setPc 300) = true
      := by decide +kernel

/-- The jumps of sub-mode 4 read their own register: taken while every other register fails the predicate (45 R200). -/
theorem test_jump_reg_nz :
    gives 0x04B00128 (State.reset.setReg .a (neg 0 0 0 0 1)) (fun s => (s.setReg .j (pos 0 0 0 0 11)).setPc 300) = true ∧
    gives 0x04B00129 (State.reset.setReg .i1 (neg 0 0 0 0 1)) (fun s => (s.setReg .j (pos 0 0 0 0 11)).setPc 300) = true ∧
    gives 0x04B0012A (State.reset.setReg .i2 (neg 0 0 0 0 1)) (fun s => (s.setReg .j (pos 0 0 0 0 11)).setPc 300) = true ∧
    gives 0x04B0012B (State.reset.setReg .i3 (neg 0 0 0 0 1)) (fun s => (s.setReg .j (pos 0 0 0 0 11)).setPc 300) = true ∧
    gives 0x04B0012C (State.reset.setReg .i4 (neg 0 0 0 0 1)) (fun s => (s.setReg .j (pos 0 0 0 0 11)).setPc 300) = true ∧
    gives 0x04B0012D (State.reset.setReg .i5 (neg 0 0 0 0 1)) (fun s => (s.setReg .j (pos 0 0 0 0 11)).setPc 300) = true ∧
    gives 0x04B0012E (State.reset.setReg .i6 (neg 0 0 0 0 1)) (fun s => (s.setReg .j (pos 0 0 0 0 11)).setPc 300) = true ∧
    gives 0x04B0012F (State.reset.setReg .x (neg 0 0 0 0 1)) (fun s => (s.setReg .j (pos 0 0 0 0 11)).setPc 300) = true
      := by decide +kernel

/-- The jumps of sub-mode 5 read their own register: taken while every other register fails the predicate (45 R200). -/
theorem test_jump_reg_np :
    gives 0x04B00168 (nine.setReg .a (neg 1 0 0 0 0)) (fun s => (s.setReg .j (pos 0 0 0 0 11)).setPc 300) = true ∧
    gives 0x04B00169 (nine.setReg .i1 (neg 1 0 0 0 0)) (fun s => (s.setReg .j (pos 0 0 0 0 11)).setPc 300) = true ∧
    gives 0x04B0016A (nine.setReg .i2 (neg 1 0 0 0 0)) (fun s => (s.setReg .j (pos 0 0 0 0 11)).setPc 300) = true ∧
    gives 0x04B0016B (nine.setReg .i3 (neg 1 0 0 0 0)) (fun s => (s.setReg .j (pos 0 0 0 0 11)).setPc 300) = true ∧
    gives 0x04B0016C (nine.setReg .i4 (neg 1 0 0 0 0)) (fun s => (s.setReg .j (pos 0 0 0 0 11)).setPc 300) = true ∧
    gives 0x04B0016D (nine.setReg .i5 (neg 1 0 0 0 0)) (fun s => (s.setReg .j (pos 0 0 0 0 11)).setPc 300) = true ∧
    gives 0x04B0016E (nine.setReg .i6 (neg 1 0 0 0 0)) (fun s => (s.setReg .j (pos 0 0 0 0 11)).setPc 300) = true ∧
    gives 0x04B0016F (nine.setReg .x (neg 1 0 0 0 0)) (fun s => (s.setReg .j (pos 0 0 0 0 11)).setPc 300) = true
      := by decide +kernel

/-- INC 10 of each register (46 R261, R262). -/
theorem test_inc_each :
    gives 0x00280030 nine (fun s => (s.setReg .a (pos 0 0 0 0 11)).setPc 11) = true ∧
    gives 0x00280031 nine (fun s => (s.setReg .i1 (pos 0 0 0 0 12)).setPc 11) = true ∧
    gives 0x00280032 nine (fun s => (s.setReg .i2 (pos 0 0 0 0 13)).setPc 11) = true ∧
    gives 0x00280033 nine (fun s => (s.setReg .i3 (pos 0 0 0 0 14)).setPc 11) = true ∧
    gives 0x00280034 nine (fun s => (s.setReg .i4 (pos 0 0 0 0 15)).setPc 11) = true ∧
    gives 0x00280035 nine (fun s => (s.setReg .i5 (pos 0 0 0 0 16)).setPc 11) = true ∧
    gives 0x00280036 nine (fun s => (s.setReg .i6 (pos 0 0 0 0 17)).setPc 11) = true ∧
    gives 0x00280037 nine (fun s => (s.setReg .x (pos 0 0 0 0 18)).setPc 11) = true := by decide +kernel

/-- DEC 10 of each register (46 R261, R262). -/
theorem test_dec_each :
    gives 0x00280070 nine (fun s => (s.setReg .a (neg 0 0 0 0 9)).setPc 11) = true ∧
    gives 0x00280071 nine (fun s => (s.setReg .i1 (neg 0 0 0 0 8)).setPc 11) = true ∧
    gives 0x00280072 nine (fun s => (s.setReg .i2 (neg 0 0 0 0 7)).setPc 11) = true ∧
    gives 0x00280073 nine (fun s => (s.setReg .i3 (neg 0 0 0 0 6)).setPc 11) = true ∧
    gives 0x00280074 nine (fun s => (s.setReg .i4 (neg 0 0 0 0 5)).setPc 11) = true ∧
    gives 0x00280075 nine (fun s => (s.setReg .i5 (neg 0 0 0 0 4)).setPc 11) = true ∧
    gives 0x00280076 nine (fun s => (s.setReg .i6 (neg 0 0 0 0 3)).setPc 11) = true ∧
    gives 0x00280077 nine (fun s => (s.setReg .x (neg 0 0 0 0 2)).setPc 11) = true := by decide +kernel

/-- ENT 10 of each register (46 R261, R262). -/
theorem test_ent_each :
    gives 0x002800B0 nine (fun s => (s.setReg .a (pos 0 0 0 0 10)).setPc 11) = true ∧
    gives 0x002800B1 nine (fun s => (s.setReg .i1 (pos 0 0 0 0 10)).setPc 11) = true ∧
    gives 0x002800B2 nine (fun s => (s.setReg .i2 (pos 0 0 0 0 10)).setPc 11) = true ∧
    gives 0x002800B3 nine (fun s => (s.setReg .i3 (pos 0 0 0 0 10)).setPc 11) = true ∧
    gives 0x002800B4 nine (fun s => (s.setReg .i4 (pos 0 0 0 0 10)).setPc 11) = true ∧
    gives 0x002800B5 nine (fun s => (s.setReg .i5 (pos 0 0 0 0 10)).setPc 11) = true ∧
    gives 0x002800B6 nine (fun s => (s.setReg .i6 (pos 0 0 0 0 10)).setPc 11) = true ∧
    gives 0x002800B7 nine (fun s => (s.setReg .x (pos 0 0 0 0 10)).setPc 11) = true := by decide +kernel

/-- ENN 10 of each register (46 R261, R262). -/
theorem test_enn_each :
    gives 0x002800F0 nine (fun s => (s.setReg .a (neg 0 0 0 0 10)).setPc 11) = true ∧
    gives 0x002800F1 nine (fun s => (s.setReg .i1 (neg 0 0 0 0 10)).setPc 11) = true ∧
    gives 0x002800F2 nine (fun s => (s.setReg .i2 (neg 0 0 0 0 10)).setPc 11) = true ∧
    gives 0x002800F3 nine (fun s => (s.setReg .i3 (neg 0 0 0 0 10)).setPc 11) = true ∧
    gives 0x002800F4 nine (fun s => (s.setReg .i4 (neg 0 0 0 0 10)).setPc 11) = true ∧
    gives 0x002800F5 nine (fun s => (s.setReg .i5 (neg 0 0 0 0 10)).setPc 11) = true ∧
    gives 0x002800F6 nine (fun s => (s.setReg .i6 (neg 0 0 0 0 10)).setPc 11) = true ∧
    gives 0x002800F7 nine (fun s => (s.setReg .x (neg 0 0 0 0 10)).setPc 11) = true := by decide +kernel

/-- A no-op word of every opcode that has one, index 63: only the pc moves (30 R90). -/
theorem test_noop_each :
    gives 0x0003FFC0 nine (fun s => s.setPc 11) = true ∧
    gives 0x0003FFC5 nine (fun s => s.setPc 11) = true ∧
    gives 0x0003FFC6 nine (fun s => s.setPc 11) = true ∧
    gives 0x0003FFC7 nine (fun s => s.setPc 11) = true ∧
    gives 0x0003FFD0 nine (fun s => s.setPc 11) = true ∧
    gives 0x0003FFD1 nine (fun s => s.setPc 11) = true ∧
    gives 0x0003FFD2 nine (fun s => s.setPc 11) = true ∧
    gives 0x0003FFD3 nine (fun s => s.setPc 11) = true ∧
    gives 0x0003FFD4 nine (fun s => s.setPc 11) = true ∧
    gives 0x0003FFD5 nine (fun s => s.setPc 11) = true ∧
    gives 0x0003FFD6 nine (fun s => s.setPc 11) = true ∧
    gives 0x0003FFD7 nine (fun s => s.setPc 11) = true ∧
    gives 0x0003FFE2 nine (fun s => s.setPc 11) = true ∧
    gives 0x0003FFE3 nine (fun s => s.setPc 11) = true ∧
    gives 0x0003FFE4 nine (fun s => s.setPc 11) = true ∧
    gives 0x0003FFE5 nine (fun s => s.setPc 11) = true ∧
    gives 0x0003FFE6 nine (fun s => s.setPc 11) = true ∧
    gives 0x0003FFE7 nine (fun s => s.setPc 11) = true ∧
    gives 0x0003FFE8 nine (fun s => s.setPc 11) = true ∧
    gives 0x0003FFE9 nine (fun s => s.setPc 11) = true ∧
    gives 0x0003FFEA nine (fun s => s.setPc 11) = true ∧
    gives 0x0003FFEB nine (fun s => s.setPc 11) = true ∧
    gives 0x0003FFEC nine (fun s => s.setPc 11) = true ∧
    gives 0x0003FFED nine (fun s => s.setPc 11) = true ∧
    gives 0x0003FFEE nine (fun s => s.setPc 11) = true ∧
    gives 0x0003FFEF nine (fun s => s.setPc 11) = true ∧
    gives 0x0003FFF0 nine (fun s => s.setPc 11) = true ∧
    gives 0x0003FFF1 nine (fun s => s.setPc 11) = true ∧
    gives 0x0003FFF2 nine (fun s => s.setPc 11) = true ∧
    gives 0x0003FFF3 nine (fun s => s.setPc 11) = true ∧
    gives 0x0003FFF4 nine (fun s => s.setPc 11) = true ∧
    gives 0x0003FFF5 nine (fun s => s.setPc 11) = true ∧
    gives 0x0003FFF6 nine (fun s => s.setPc 11) = true ∧
    gives 0x0003FFF7 nine (fun s => s.setPc 11) = true := by decide +kernel

/-! ## The machine around the instructions -/

/-- A word placed by withFetchWord runs as the first instruction after reset; the run of 95 P1's shape ends at HLT. -/
theorem test_fetch_and_run :
    nextOf (step (State.reset.withFetchWord 32 0x001400B0)) =
      some (((State.reset.withFetchWord 32 0x001400B0).setReg .a (pos 0 0 0 0 5)).setPc 1) ∧
    run 2 (hostStore (at10 0x001400B0 State.reset) 11 (Word.unpack 0x00000085)) =
      .halted ((((hostStore (at10 0x001400B0 State.reset) 11 (Word.unpack 0x00000085)).setReg .a
        (pos 0 0 0 0 5)).setPc 11).setStatus .halted) ∧
    run 1 (State.reset.setPc 4000) = .faulted (.fetchOutOfRange 4000)
      ((State.reset.setPc 4000).setStatus (.faulted (.fetchOutOfRange 4000))) ∧
    run 1 (State.reset.setPc (-1)) = .faulted (.fetchOutOfRange (-1))
      ((State.reset.setPc (-1)).setStatus (.faulted (.fetchOutOfRange (-1)))) := by
  decide +kernel

/-- Memory's canonical form: writing +0 removes the entry, −0 stays listed, addresses rise (logs 21, 22). -/
theorem test_memory_form :
    Memory.write (Memory.write [] 7 (pos 0 0 0 0 1)) 3 (neg 0 0 0 0 0) =
      [(3, neg 0 0 0 0 0), (7, pos 0 0 0 0 1)] ∧
    Memory.write (Memory.write [] 7 (pos 0 0 0 0 1)) 7 (pos 0 0 0 0 0) = [] := by decide +kernel

/-! ## Witnesses: for each statement with hypotheses, a state and operands that meet them -/

/-- An instruction word's operand: +a, no index. -/
def at' (a : BitVec 12) : AddrField := ⟨false, a, 0⟩

theorem witness_decodeEncodeRoundTrip :
    (Instr.nopOp39 (at' 4095) 10).wellFormed = true ∧ (Instr.nopOp40 ⟨true, 0, 63⟩ 6).wellFormed = true ∧
    (Instr.add ⟨true, 4095, 7⟩ 63).wellFormed = true := by decide

/-- A map that swaps opcodes 1 and 6 and gives JMP the sub-mode 7 makes [+ 31 16 0 5 6] an ADD, [+ 31 16 0 5 1] an
unknown opcode and [+ 31 16 0 7 39] a JMP. -/
theorem witness_opcodeMapOnlyRenumbers :
    let p : OpcodeMap := ⟨[(1, 6), (6, 1)], [(39, 7, 0), (39, 0, 7)]⟩
    decodeIn p (pos 31 16 0 5 6) = .add (at' 2000) 5 ∧ decodeIn p (pos 31 16 0 5 1) = .unkOp6 (at' 2000) 5 ∧
    decodeIn p (pos 31 16 0 7 39) = .jmp (at' 2000) ∧ (Instr.add (at' 2000) 5).wellFormed = true ∧
    (encode (.add (at' 2000) 5)).opcode = p.opcode (pos 31 16 0 5 6).opcode ∧
    (Instr.add (at' 2000) 5).addrField = (pos 31 16 0 5 6).addrField ∧
    (Instr.add (at' 2000) 5).modifier = (pos 31 16 0 5 6).modifier ∧ hasSubmodes 1 = false ∧
    (Instr.add (at' 2000) 5).group.checksField = true := by decide +kernel

theorem witness_packedFormRoundTrip : (2 ^ 31 - 1 : Nat) < 2 ^ 31 ∧ (Word.unpack (2 ^ 31 - 1)).sign = true := by
  decide +kernel

theorem witness_hostWordBuilder :
    (instrWord 63 4095 6 63).isSome = true ∧ (instrWord 0 (-4095) 0 0).isSome = true ∧
    instrWord 64 0 0 0 = none ∧ instrWord 0 (-4096) 0 0 = none := by decide +kernel

theorem witness_wordOfNumber :
    Fits (2 ^ 30 - 1) ∧ Fits (-(2 ^ 30 - 1)) ∧ ¬Fits (2 ^ 30) ∧ ¬Fits (-2 ^ 30) := by unfold Fits; decide

/-- The operand is usable at both ends of memory, for the whole word and an empty field. -/
theorem witness_operandReady :
    OperandReady (at' 0) 5 demo ∧ OperandReady (at' 3999) 0 demo ∧ OperandReady ⟨false, 4000, 6⟩ 45 demo := by
  unfold OperandReady; decide

/-- A = +0 meets −0 at 1000. -/
theorem witness_wordsCompareNumerically :
    let s := hostStore State.reset 1000 .minusZero
    OperandReady (at' 1000) 5 s ∧ s.a = .plusZero ∧ memWord (at' 1000) s = .minusZero := by
  unfold OperandReady; decide

theorem witness_fields :
    fieldOK 0 = true ∧ fieldOK 5 = true ∧ fieldOK 45 = true ∧ fieldOK 6 = false ∧ fieldOK 8 = false ∧ fieldOK 46 =
      false := by
  decide

theorem witness_effectiveAddress :
    (ea ⟨true, 4095, 0⟩ demo).toOption = some (-4095) ∧ (ea ⟨false, 1, 1⟩ demo).toOption = some 6 ∧
    (ea ⟨false, 1, 6⟩ demo).toOption = some 0 ∧ (ea ⟨false, 0, 2⟩ demo).toOption = some 0 ∧
    (ea ⟨false, 0, 3⟩ demo).toOption = some 0 ∧ (ea ⟨false, 0, 4⟩ demo).toOption = some 0 ∧
    (ea ⟨false, 0, 5⟩ demo).toOption = some 0 ∧ (ea ⟨false, 0, 7⟩ demo).toOption = none := by decide +kernel

/-- The largest sum that fits and the smallest that does not, under both overflow parameters. -/
theorem witness_addSubResult :
    let s := (hostStore State.reset 1000 (pos 0 0 0 0 1)).setReg .a (pos 63 63 63 63 62)
    let u := (hostStore State.reset 1000 (pos 0 0 0 0 1)).setReg .a (pos 63 63 63 63 63)
    let w := (hostStore (withParams .fault .keep .signOfA) 1000 (pos 0 0 0 0 1)).setReg .a (neg 63 63 63 63 63)
    OperandReady (at' 1000) 5 s ∧ OperandReady (at' 1000) 5 u ∧ OperandReady (at' 1000) 5 w ∧
    Fits (val s.a + val (operandWord (at' 1000) 5 s)) ∧ ¬Fits (val u.a + val (operandWord (at' 1000) 5 u)) ∧
    u.params.arithOverflow = .truncate ∧ ¬Fits (val w.a - val (operandWord (at' 1000) 5 w)) ∧
    w.params.arithOverflow = .fault := by
  unfold OperandReady Fits; decide +kernel

theorem witness_mulResult :
    OperandReady (at' 1000) 5 demo ∧ (nextOf (exec (.mul (at' 1000) 5) demo)).isSome = true := by
  unfold OperandReady; decide +kernel

/-- A zero divisor, mag(A) = |V| (overflow), mag(A) = |V| − 1 (the quotient fits), under both dividend signs. -/
theorem witness_divResult :
    let s := State.reset.setReg .a (pos 0 0 0 0 4)
    let u := hostStore s 1000 (neg 0 0 0 0 4)
    let w := (hostStore (withParams .fault .keep .signOfX) 1000 (neg 0 0 0 0 5)).setReg .a (pos 0 0 0 0 4)
    OperandReady (at' 1000) 5 s ∧ val (operandWord (at' 1000) 5 s) = 0 ∧ OperandReady (at' 1000) 5 u ∧
    (val (operandWord (at' 1000) 5 u)).natAbs = mag u.a ∧ val (operandWord (at' 1000) 5 u) ≠ 0 ∧
    OperandReady (at' 1000) 5 w ∧ mag w.a + 1 = (val (operandWord (at' 1000) 5 w)).natAbs := by
  unfold OperandReady; decide +kernel

theorem witness_loadResult :
    (Instr.ld6 (at' 3999) 5).group = .load .i6 ∧ OperandReady (Instr.ld6 (at' 3999) 5).addrField 5 demo := by
  unfold OperandReady; decide

theorem witness_storeResult :
    (Instr.stz (at' 0) 5).group = .store .zero ∧ (Instr.stj (at' 3999) 2).group = .store (.reg .j) ∧
    OperandReady (at' 0) 5 demo ∧ OperandReady (at' 3999) 2 demo := by
  unfold OperandReady; decide

theorem witness_unconditionalJumps :
    indexOK ⟨true, 4095, 6⟩ = true ∧ inMemory (State.reset.setPc 0).pc = true ∧
    inMemory (State.reset.setPc 3999).pc = true := by decide

/-- Each of the six tests of CI is passed by one value of CI and failed by another. -/
theorem witness_conditionalJumps :
    (Instr.jle ⟨false, 9, 6⟩).group = .jumpCI .le ∧ indexOK ⟨false, 9, 6⟩ = true ∧ inMemory demo.pc = true ∧
    Rel.lt.holdsCI .less ∧ ¬Rel.lt.holdsCI .equal ∧ Rel.eq.holdsCI .equal ∧ ¬Rel.eq.holdsCI .less ∧
    Rel.gt.holdsCI .greater ∧ ¬Rel.gt.holdsCI .equal ∧ Rel.ge.holdsCI .equal ∧ ¬Rel.ge.holdsCI .less ∧
    Rel.ne.holdsCI .greater ∧ ¬Rel.ne.holdsCI .equal ∧ Rel.le.holdsCI .equal ∧ ¬Rel.le.holdsCI .greater := by
  unfold Rel.holdsCI; decide

/-- Each of the six predicates holds of one of −1, 0, 1 and fails of another. -/
theorem witness_registerJumps :
    (Instr.jxnp ⟨false, 9, 6⟩).group = .jumpReg .x .le ∧ indexOK ⟨false, 9, 6⟩ = true ∧ inMemory demo.pc = true ∧
    Rel.lt.holds (-1) ∧ ¬Rel.lt.holds 0 ∧ Rel.eq.holds 0 ∧ ¬Rel.eq.holds 1 ∧ Rel.gt.holds 1 ∧ ¬Rel.gt.holds 0 ∧
    Rel.ge.holds 0 ∧ ¬Rel.ge.holds (-1) ∧ Rel.ne.holds 1 ∧ ¬Rel.ne.holds 0 ∧ Rel.le.holds 0 ∧ ¬Rel.le.holds 1 := by
  unfold Rel.holds; decide

theorem witness_incDecResult :
    let s := State.reset.setReg .x (pos 63 63 63 63 63)
    let w := (withParams .fault .keep .signOfA).setReg .i1 (neg 63 63 63 63 63)
    (Instr.incx (at' 1)).group = .transfer .x .inc ∧ (Instr.dec1 (at' 1)).group = .transfer .i1 .dec ∧
    indexOK (at' 1) = true ∧ ¬Fits (val (s.reg .x) + eaValue (at' 1) s) ∧ Fits (val (s.reg .x) - eaValue (at' 1) s) ∧
    s.params.arithOverflow = .truncate ∧ ¬Fits (val (w.reg .i1) - eaValue (at' 1) w) ∧ w.params.arithOverflow = .fault
      := by
  unfold Fits; decide +kernel

/-- A bad index, a zero address, an address that fits, one that does not under each overflow parameter. -/
theorem witness_enterResult :
    let s := State.reset.setReg .i1 (pos 63 63 63 63 63)
    let w := (withParams .fault .positive .signOfA).setReg .i1 (pos 63 63 63 63 63)
    (Instr.enta ⟨true, 0, 0⟩).group = .transfer .a .ent ∧ (Instr.ennx ⟨false, 1, 1⟩).group = .transfer .x .enn ∧
    (encode (.enta ⟨true, 0, 0⟩)).sign = true ∧ indexOK ⟨false, 0, 7⟩ = false ∧ indexOK ⟨false, 1, 1⟩ = true ∧
    eaValue ⟨true, 0, 0⟩ s = 0 ∧ Fits (eaValue ⟨false, 0, 1⟩ s) ∧ ¬Fits (-eaValue ⟨false, 1, 1⟩ s) ∧
    s.params.arithOverflow = .truncate ∧ ¬Fits (eaValue ⟨false, 1, 1⟩ w) ∧ w.params.arithOverflow = .fault := by
  unfold Fits; decide +kernel

theorem witness_compareResult :
    (Instr.cmp6 (at' 1000) 0).group = .cmp .i6 ∧ OperandReady (at' 1000) 0 demo ∧ OperandReady (at' 1000) 13 demo := by
  unfold OperandReady; decide

theorem witness_noOpWords :
    (Instr.nopOp55 ⟨true, 4095, 63⟩ 4).group = .noOp ∧ (decode (Word.unpack 0x00000085)).group ≠ .noOp
      := by decide +kernel

/-- A jump not taken with a bad index, a load with a bad field, a load of −1 and of 4000. -/
theorem witness_faultOrder :
    (Instr.jl ⟨false, 0, 7⟩).group.computesEA = true ∧ indexOK (Instr.jl ⟨false, 0, 7⟩).addrField = false ∧
    (Instr.lda (at' 4000) 8).group.checksField = true ∧ indexOK (at' 4000) = true ∧ fieldOK 8 = false ∧
    fieldOK 5 = true ∧ inMemory (eaValue (at' 4000) demo) = false ∧ inMemory (eaValue ⟨true, 1, 0⟩ demo) = false := by
  decide

/-- Each kind an instruction can raise is raised by one. -/
theorem witness_faultsOnlyFromTheirRaisers :
    inMemory demo.pc = true ∧ exec (.j1n ⟨false, 0, 63⟩) demo = .fault (.indexInvalid 63) ∧
    exec (.sta (at' 0) 8) demo = .fault (.fieldSpecInvalid 8) ∧
    exec (.cmpx (at' 4000) 5) demo = .fault (.memoryOutOfRange 4000) ∧
    exec (.div (at' 0) 5) demo = .fault .divideByZero ∧
    exec (.div (at' 1000) 45) demo = .fault .quotientOverflow ∧
    exec (.ennx ⟨false, 1, 1⟩) ((withParams .fault .keep .signOfA).setReg .i1 (pos 63 63 63 63 63)) =
      .fault .arithmeticOverflow :=
  ⟨by decide, fault_of (by decide +kernel), fault_of (by decide +kernel), fault_of (by decide +kernel),
    fault_of (by decide +kernel), fault_of (by decide +kernel), fault_of (by decide +kernel)⟩

/-- Defined cases of DIV and of ENTA, the second where overflow faults. -/
theorem witness_definedCasesComplete :
    let s := (withParams .fault .keep .signOfA).setReg .i1 (pos 0 0 0 0 5)
    inMemory s.pc = true ∧ DefinedCase (.enta ⟨false, 1, 1⟩) s ∧ inMemory demo.pc = true ∧
    DefinedCase (.div (at' 1000) 5) demo := by
  refine ⟨by decide, ⟨fun _ => by decide, fun h => ?_, fun h => ?_, fun _ v h => ?_⟩, by decide,
    ⟨fun _ => by decide, fun _ => by decide, fun _ => by decide +kernel, fun h => ?_⟩⟩
  · cases h
  · cases h
  · cases h; unfold Fits; decide
  · exact absurd h (by decide)

/-- Frames and NextPc: a next state of a load, a store, a compare, HLT, a taken and an untaken jump. -/
theorem witness_frames :
    (∃ t, exec (.lda (at' 1000) 5) demo = .next t) ∧ (∃ t, exec (.sta (at' 3999) 5) demo = .next t) ∧
    (∃ t, exec (.cmpa (at' 1000) 5) demo = .next t) ∧ (∃ t, exec (.hlt (at' 0)) demo = .next t) ∧
    (∃ t, exec (.jan (at' 300)) demo = .next t) ∧ (∃ t, exec (.jap (at' 300)) demo = .next t) ∧
    Reg.x ∉ (Instr.lda (at' 1000) 5).group.dests ∧ (Instr.lda (at' 1000) 5).group.isStore = false ∧
    (Instr.sta (at' 3999) 5).group.isStore = true ∧ ((3998 : Nat) : Int) ≠ eaValue (at' 3999) demo ∧
    (Instr.lda (at' 1000) 5).group.isCompare = false ∧ (Instr.lda (at' 1000) 5).group ≠ .halt ∧
    (Instr.lda (at' 1000) 5).group.readsCI = false :=
  ⟨exists_next (by decide +kernel), exists_next (by decide +kernel), exists_next (by decide +kernel),
    exists_next (by decide +kernel), exists_next (by decide +kernel), exists_next (by decide +kernel), by decide⟩

theorem witness_nextPc :
    Taken (Instr.jap (at' 300)).group demo ∧ (Instr.jap (at' 300)).group.links = true ∧ inMemory demo.pc = true ∧
    ¬Taken (Instr.jan (at' 300)).group demo ∧ (Instr.jan (at' 300)).group ≠ .halt :=
  ⟨show val (demo.reg .a) > 0 by decide, by decide, by decide, show ¬val (demo.reg .a) < 0 by decide, by decide⟩

theorem witness_oldDestinationUnread :
    (Instr.ld1 ⟨false, 0, 2⟩ 5).group = .load .i1 ∧ indexRegister ⟨false, 0, 2⟩ ≠ some .i1 ∧
    (Instr.ent6 ⟨false, 0, 1⟩).group = .transfer .i6 .ent ∧ indexRegister ⟨false, 0, 1⟩ ≠ some .i6 ∧
    (Instr.enna (at' 0)).group = .transfer .a .enn ∧ (Instr.mul (at' 0) 5).group = .arith .mul ∧
    indexRegister (at' 0) ≠ some .x := by decide

theorem witness_repeatedAccess :
    (Instr.stx (at' 3999) 37).group.isStore = true ∧ (∃ t, exec (.stx (at' 3999) 37) demo = .next t) ∧
    (memWrite demo 0 .minusZero).toOption.isSome = true :=
  ⟨by decide, exists_next (by decide +kernel), by decide +kernel⟩

/-- A running state that meets the three invariants and steps. -/
theorem witness_invariants :
    let s := at10 0x04B00027 demo
    CanonicalMemory s ∧ PcInReach s ∧ LinkInRange s ∧ s.status = .running ∧ ∃ t, step s = .next t := by
  refine ⟨?_, ?_, ?_, rfl, exists_next (by decide +kernel)⟩
  · unfold CanonicalMemory; decide +kernel
  · unfold PcInReach; decide +kernel
  · unfold LinkInRange; decide +kernel

/-- HLT and another instruction at the pc of a running state. -/
theorem witness_statusTransitions :
    (at10 0x00000085 demo).status = .running ∧ (∃ t, step (at10 0x00000085 demo) = .next t) ∧
    (instrAtPc (at10 0x00000085 demo)).group = .halt ∧
    (∃ t, step (at10 0x04B00027 demo) = .next t) :=
  ⟨rfl, exists_next (by decide +kernel), by decide +kernel, exists_next (by decide +kernel)⟩

theorem witness_steps :
    (at10 0x04B00027 demo).status = .running ∧ inMemory (at10 0x04B00027 demo).pc = true ∧
    decode ((at10 0x04B00027 demo).mem.read (at10 0x04B00027 demo).pc.toNat) = .jmp (at' 300) ∧
    demo.params.opcodeMap = .default ∧ instrAtPc (at10 0x04B00027 demo) = .jmp (at' 300) ∧
    State.reset.status = .running ∧ (State.reset.setPc (-1)).pc < 0 ∧ 3999 < (State.reset.setPc 4000).pc ∧
    (State.reset.setStatus .halted).status = .halted ∧
    (State.reset.setStatus (.faulted .divideByZero)).status = .faulted .divideByZero := by decide +kernel

/-- A running state that steps to HALTED over an HLT, and a halted state that stands at one and steps. -/
theorem witness_stepKeepsHaltedAtHlt :
    let s := at10 0x00000085 demo
    let u := s.setStatus .halted
    HaltedAtHlt s ∧ (nextOf (step s)).map State.status = some .halted ∧
    HaltedAtHlt u ∧ u.status = .halted ∧ nextOf (step u) = some u := by
  refine ⟨fun h => ?_, ?_, fun _ => ?_, rfl, rfl⟩
  · exact absurd h (by decide +kernel)
  · decide +kernel
  · decide +kernel

/-- STA 11 at pc = 10 stores into the next instruction's address. -/
theorem witness_storeSeenByNextFetch :
    (Instr.sta (at' 11) 5).group = .store (.reg .a) ∧ demo.status = .running ∧
    (∃ t, exec (.sta (at' 11) 5) demo = .next t) ∧ eaValue (at' 11) demo = demo.pc + 1 :=
  ⟨by decide, by decide, exists_next (by decide +kernel), by decide⟩

theorem witness_jumpOutside :
    demo.status = .running ∧ inMemory demo.pc = true ∧ (Instr.jmp (at' 4000)).group.links = true ∧
    Taken (Instr.jmp (at' 4000)).group demo ∧ indexOK (at' 4000) = true ∧
    inMemory (eaValue (at' 4000) demo) = false ∧ inMemory (eaValue ⟨true, 1, 0⟩ demo) = false :=
  ⟨by decide, by decide, by decide, trivial, by decide, by decide, by decide⟩

/-- A run that halts, one that faults, one whose budget is spent. -/
theorem witness_runs :
    (∃ t, run 1 (at10 0x00000085 demo) = .halted t) ∧
    (∃ k t, run 1 (at10 0x3E800148 demo) = .faulted k t) ∧
    (∀ t, run 1 (at10 0x00000085 demo) ≠ .budgetSpent t) ∧
    run 0 demo = .budgetSpent demo := by
  have h : run 1 (at10 0x00000085 demo) = .halted ((at10 0x00000085 demo).setStatus .halted) := by decide +kernel
  refine ⟨⟨_, h⟩, ⟨.memoryOutOfRange 4000, (at10 0x3E800148 demo).setStatus (.faulted (.memoryOutOfRange 4000)), ?_⟩,
    fun t ht => ?_, rfl⟩
  · decide +kernel
  · rw [h] at ht; cases ht

/-- The jump decoder's premises: a taken linking jump, JSJ, an untaken register jump, a no-op word. -/
theorem witness_jumpDecoderAgrees :
    JD 39 0 demo.ci .zero = some ⟨.jump, true, true⟩ ∧ JD 39 1 demo.ci .zero = some ⟨.jump, true, false⟩ ∧
    JD 40 0 demo.ci (signZero (val (demo.reg .a))) = some ⟨.jump, false, true⟩ ∧
    JD 47 6 demo.ci .pos = some ⟨.nop, false, false⟩ ∧ JD 48 0 demo.ci .pos = none ∧ inMemory demo.pc = true ∧
    (decode (Word.unpack 0x04B00028)).group.testedReg = some .a ∧
    indexOK (Word.unpack 0x04B00028).addrField = true := by decide +kernel

theorem witness_arithmeticUnitAgrees :
    (Instr.add (at' 1000) 5).group = .arith .add ∧ OperandReady (at' 1000) 5 demo ∧
    (AU .add demo.params demo.a demo.x (operandWord (at' 1000) 5 demo)).toOption.isSome = true ∧
    OperandReady (at' 0) 5 demo ∧
    (AU .div demo.params demo.a demo.x (operandWord (at' 0) 5 demo)).toOption = none := by
  unfold OperandReady; decide +kernel

theorem witness_placedWordRuns : State.reset.params.opcodeMap = .default ∧ decodeTableWord 32 0x001400B0 = some (.enta
    (at' 5)) := by decide +kernel

end Sys2Proof.Tests
end

section
/-! SUPPORT. Decoder and encoder are inverse, and what an opcode map does to a word: the fields of the word in the
default numbering. -/

namespace Sys2Proof

/-! ## The encoder on an instruction -/

/-- The word of an instruction has the instruction's own modifier and address operand. -/
theorem encode_eq_instrOf (i : Instr) : encode i = instrOf (encode i).opcode i.modifier i.addrField := by
  cases i <;> rfl

theorem modifier_encode (i : Instr) : (encode i).modifier = i.modifier := by
  rw [encode_eq_instrOf, modifier_instrOf]

theorem addrField_encode (i : Instr) : (encode i).addrField = i.addrField := by
  rw [encode_eq_instrOf, addrField_instrOf]

/-- No opcode whose F is a sub-mode has F as a field specification too (30 R83). -/
theorem checksField_and_hasSubmodes (i : Instr) :
    (i.group.checksField && hasSubmodes (encode i).opcode) = false := by
  cases i <;> rfl

/-! ## Decoder and encoder are inverse -/

/-- A word is the encoding of its own three fields. -/
theorem instrOf_fields (w : Word) : instrOf w.opcode w.modifier w.addrField = w := by
  obtain ⟨s, b4, b3, b2, b1, b0⟩ := w
  have h4 := b4.isLt
  have h3 := b3.isLt
  simp only [instrOf, Word.addrField, Word.addrMag, Word.indexField, Word.opcode, Word.modifier, Word.mk.injEq,
    BitVec.toNat_eq, BitVec.toNat_ofNat, true_and, and_true]
  omega

/-- The word with the numbers of `w` for opcode and modifier, and its address operand, is `w`. -/
theorem instrOf_eq_of_toNat {c f : Byte} {w : Word} (hc : w.opcode.toNat = c.toNat) (hf : w.modifier.toNat = f.toNat) :
    instrOf c f w.addrField = w := by
  rw [← BitVec.eq_of_toNat_eq hc, ← BitVec.eq_of_toNat_eq hf, instrOf_fields]

/-- Encoding undoes decoding (30 R90, R91): each row of the decoder, by C and then by F where F is a sub-mode, is the
row of the encoder with the same numbers. -/
theorem encode_decode (w : Word) : encode (decode w) = w := by
  unfold decode decodeSpecial decodeJump decodeJumpA decodeJumpI1 decodeJumpI2 decodeJumpI3 decodeJumpI4 decodeJumpI5
    decodeJumpI6 decodeJumpX decodeTransferA decodeTransferI1 decodeTransferI2 decodeTransferI3 decodeTransferI4
    decodeTransferI5 decodeTransferI6 decodeTransferX
  dsimp only
  repeat' split
  case h_64 => -- the decoder's last arm: an opcode is below 64
    have hlt := w.opcode.isLt
    simp only [imp_false] at *
    have h63 : w.opcode.toNat = 63 := by omega
    exact instrOf_eq_of_toNat h63 rfl
  all_goals exact instrOf_eq_of_toNat (by bv_omega) (by bv_omega)

/-- Decoding undoes encoding: a no-op word keeps a modifier no other row claims, and every other row gives the
instruction back by its numbers (30 R80, R85 to R91). -/
theorem decode_encode (i : Instr) (hi : i.wellFormed = true) : decode (encode i) = i := by
  have hm := addrField_encode i
  cases i
  case nopOp5 m f => exact decode_nopOp5 f m hi
  case nopOp39 m f => exact decode_nopOp39 f m hi
  case nopOp40 m f => exact decode_nopOp40 f m hi
  case nopOp41 m f => exact decode_nopOp41 f m hi
  case nopOp42 m f => exact decode_nopOp42 f m hi
  case nopOp43 m f => exact decode_nopOp43 f m hi
  case nopOp44 m f => exact decode_nopOp44 f m hi
  case nopOp45 m f => exact decode_nopOp45 f m hi
  case nopOp46 m f => exact decode_nopOp46 f m hi
  case nopOp47 m f => exact decode_nopOp47 f m hi
  case nopOp48 m f => exact decode_nopOp48 f m hi
  case nopOp49 m f => exact decode_nopOp49 f m hi
  case nopOp50 m f => exact decode_nopOp50 f m hi
  case nopOp51 m f => exact decode_nopOp51 f m hi
  case nopOp52 m f => exact decode_nopOp52 f m hi
  case nopOp53 m f => exact decode_nopOp53 f m hi
  case nopOp54 m f => exact decode_nopOp54 f m hi
  case nopOp55 m f => exact decode_nopOp55 f m hi
  all_goals
    dsimp only [Instr.addrField] at hm
    conv_rhs => rw [← hm]
    rfl

theorem addrField_decode (w : Word) : (decode w).addrField = w.addrField := by
  rw [← addrField_encode, encode_decode]

theorem modifier_decode (w : Word) : (decode w).modifier = w.modifier := by
  rw [← modifier_encode, encode_decode]

/-- A word that decodes to an instruction with a field specification has an opcode without sub-modes. -/
theorem hasSubmodes_of_checksField_decode {w : Word} (h : (decode w).group.checksField = true) :
    hasSubmodes w.opcode = false := by
  simpa [h, encode_decode] using checksField_and_hasSubmodes (decode w)

/-! ## The word in the default numbering -/

namespace OpcodeMap

variable (p : OpcodeMap) (w : Word)

theorem opcode_standard : (p.standard w).opcode = p.opcode w.opcode := rfl

theorem modifier_standard : (p.standard w).modifier =
    if hasSubmodes (p.opcode w.opcode) = true then p.submode (p.opcode w.opcode) w.modifier else w.modifier := rfl

theorem addrField_standard : (p.standard w).addrField = w.addrField := rfl

/-- The default map renumbers nothing. -/
theorem standard_default : OpcodeMap.default.standard w = w := by
  change { w with b1 := if hasSubmodes w.opcode = true then w.modifier else w.modifier } = w
  rw [ite_self]
  rfl

end OpcodeMap

/-- A word whose fields in the default numbering are those of a well-formed instruction decodes to it. -/
theorem decodeIn_eq_of_fields {p : OpcodeMap} {w : Word} {i : Instr} (hi : i.wellFormed = true)
    (hc : (encode i).opcode = (p.standard w).opcode) (hm : i.addrField = (p.standard w).addrField)
    (hf : i.modifier = (p.standard w).modifier) : decodeIn p w = i := by
  have hw : p.standard w = encode i := by rw [encode_eq_instrOf, hc, hm, hf, instrOf_fields]
  rw [decodeIn, hw, decode_encode i hi]

/-- A field specification is not renumbered: its opcode has no sub-modes. -/
theorem modifier_decodeIn_of_checksField {p : OpcodeMap} {w : Word}
    (h : (decodeIn p w).group.checksField = true) : (decodeIn p w).modifier = w.modifier := by
  have hs : hasSubmodes (p.opcode w.opcode) = false := by
    rw [← OpcodeMap.opcode_standard, hasSubmodes_of_checksField_decode h]
  rw [decodeIn, modifier_decode, OpcodeMap.modifier_standard, hs, if_neg Bool.false_ne_true]

/-- Settles O4: a map acts on the word alone, through its opcode and, under a sub-mode opcode, its modifier; decoding
the result is inverse to encoding. -/
theorem opcodeMapOnlyRenumbers : Obligations.OpcodeMapOnlyRenumbers := by
  intro p w
  refine ⟨(addrField_decode _).trans (p.addrField_standard w), ?_, ?_, modifier_decodeIn_of_checksField⟩
  · rw [decodeIn, OpcodeMap.standard_default]
  · exact fun _ hi hc hm hf => decodeIn_eq_of_fields hi hc hm hf

end Sys2Proof
end

section
/-! SUPPORT. What a completed instruction can write, said once for every group, and the frame of each field of the
state: registers, comparison indicator, status, parameters, pc (10 R20, R29 to R33). -/

namespace Sys2Proof.Machine

/-! ## The states an instruction can complete in -/

/-- The state in which an instruction of the group, with address operand `m`, can complete. -/
inductive Effect (m : AddrField) (s : State) : Group → State → Prop where
  | arith (op : AuOp) (a x : Word) (hx : op = .add ∨ op = .sub → x = s.x) :
      Effect m s (.arith op) (advance ((s.setReg .a a).setReg .x x))
  | halted : Effect m s .halt (halt s)
  | noOp : Effect m s .noOp (advance s)
  | load (r : Reg) (w : Word) : Effect m s (.load r) (advance (s.setReg r w))
  | store (src : StoreSrc) (w : Word) (hm : inMemory (eaValue m s) = true) :
      Effect m s (.store src) (advance (s.setMem (s.mem.write (eaValue m s).toNat w)))
  | jumpNoSave : Effect m s .jumpNoSave (s.setPc (eaValue m s))
  | link {g : Group} (j : Word) (hg : g.links = true) (ht : Taken g s)
      (hj : wordOf s.params.arithOverflow (nextPc s) = .ok j) : Effect m s g ((s.setReg .j j).setPc (eaValue m s))
  | notTaken {g : Group} (hg : g.links = true) (ht : ¬Taken g s) : Effect m s g (advance s)
  | transfer (r : Reg) (op : TransferOp) (w : Word) : Effect m s (.transfer r op) (advance (s.setReg r w))
  | cmp (r : Reg) (c : CI) : Effect m s (.cmp r) (advance (s.setCI c))

/-- ADD and SUB give X back unchanged (40 R105). -/
theorem AU_addSub_x {op : AuOp} {p : Params} {a x v : Word} {ax : Word × Word} (h : AU op p a x v = .ok ax)
    (hop : op = .add ∨ op = .sub) : ax.2 = x := by
  obtain rfl | rfl := hop
  all_goals
    obtain ⟨w, -, hw⟩ := bind_ok.1 h
    cases hw
    rfl

/-- A jump that saves J completes taken or falls through, as its condition says. -/
theorem Effect.of_linkingJump {g : Group} {b : Bool} {m : AddrField} {s t : State} (hg : g.links = true)
    (hb : b = true ↔ Taken g s) (h : linkingJump b m s = .ok t) : Effect m s g t := by
  obtain ⟨-, ⟨ht, j, hj, rfl⟩ | ⟨ht, rfl⟩⟩ := linkingJump_ok.1 h
  · exact .link j hg (hb.1 ht) hj
  · exact .notTaken hg (by simp [← hb, ht])

/-- Each group's meaning, where it answers, has one of the effects, by the lemma about its shared operation. -/
theorem groupMeaning_effect {g : Group} {m : AddrField} {f : FieldSpec} {s t : State}
    (h : groupMeaning g m f s = .ok t) : Effect m s g t := by
  cases g with
  | arith op =>
    obtain ⟨-, ax, hu, rfl⟩ := arith_ok.1 h
    exact .arith op ax.1 ax.2 (AU_addSub_x hu)
  | halt => cases h; exact .halted
  | noOp => cases h; exact .noOp
  | load r =>
    obtain ⟨-, rfl⟩ := load_ok.1 h
    exact .load r _
  | store src =>
    obtain ⟨⟨-, -, hm⟩, rfl⟩ := store_ok.1 h
    exact .store src _ hm
  | jump => exact .of_linkingJump rfl (by simp [Taken]) h
  | jumpNoSave =>
    obtain ⟨-, rfl⟩ := plainJump_ok.1 h
    exact .jumpNoSave
  | jumpCI p => exact .of_linkingJump rfl (p.ciBool_iff s.ci) h
  | jumpReg r p => exact .of_linkingJump rfl (p.valBool_iff _) h
  | transfer r op =>
    obtain ⟨-, w, rfl⟩ := transfer_ok h
    exact .transfer r op w
  | cmp r =>
    obtain ⟨-, rfl⟩ := compare_ok.1 h
    exact .cmp r _

/-- An instruction that answers a next state completes as its group can. -/
theorem exec_effect {i : Instr} {s t : State} (h : exec i s = .next t) : Effect i.addrField s i.group t :=
  groupMeaning_effect (exec_next.1 h)

/-! ## What a completed instruction leaves unchanged -/

theorem Group.dests_of_links {g : Group} (h : g.links = true) : g.dests = [.j] := by
  cases g with
  | jump | jumpCI _ | jumpReg _ _ => rfl
  | _ => cases h

namespace Effect

variable {m : AddrField} {s t : State} {g : Group} (h : Effect m s g t)
include h

theorem reg_eq {r : Reg} (hr : r ∉ g.dests) : t.reg r = s.reg r := by
  cases h with
  | arith op a x hx =>
    have ha : r ≠ .a := by rintro rfl; cases op <;> simp [Group.dests] at hr
    by_cases hrx : r = .x
    · subst hrx
      have hop : op = .add ∨ op = .sub := by cases op <;> simp [Group.dests] at hr ⊢
      simp [hx hop]
    · simp [State.reg_setReg_other _ _ _ _ ha, State.reg_setReg_other _ _ _ _ hrx]
  | load r' w => simp [State.reg_setReg_other _ _ _ _ (List.ne_of_not_mem_cons hr)]
  | transfer r' op w => simp [State.reg_setReg_other _ _ _ _ (List.ne_of_not_mem_cons hr)]
  | link j hg =>
    rw [Group.dests_of_links hg] at hr
    simp [State.reg_setReg_other _ _ _ _ (List.ne_of_not_mem_cons hr)]
  | _ => simp [halt]

theorem ci_eq (hg : g.isCompare = false) : t.ci = s.ci := by
  cases h with
  | cmp => cases hg
  | _ => simp [halt]

theorem status_eq (hg : g ≠ .halt) : t.status = s.status := by
  cases h with
  | halted => exact absurd rfl hg
  | _ => simp

theorem params_eq : t.params = s.params := by
  cases h <;> simp [halt]

theorem eq_halt (hg : g = .halt) : t = halt s := by
  subst hg
  cases h with
  | halted => rfl
  | link j hg => cases hg
  | notTaken hg => cases hg

/-- The pc stays, falls through to next_pc, or takes the effective address (70 R374). -/
theorem pc_cases : t.pc = s.pc ∨ t.pc = s.pc + 1 ∨ t.pc = eaValue m s := by
  cases h <;> simp [halt, nextPc]

end Effect

end Sys2Proof.Machine
end

section
/-! SUPPORT. The frames of 10 R29 to R33 for every instruction, and the invariants that every step keeps: the pc in
reach of an effective address, a halted machine at an HLT. What holds after reset and construction (10 R34). -/

namespace Sys2Proof.Machine

/-! ## Frames -/

/-- Settles O33: no group's effect writes a register outside its destinations. -/
theorem registerFrame : Obligations.RegisterFrame :=
  fun _ _ _ _ h hr => (exec_effect h).reg_eq hr

/-- Settles O35: field by field from the effect of the group. -/
theorem flagStatusParamsFrame : Obligations.FlagStatusParamsFrame :=
  fun _ _ _ h => ⟨(exec_effect h).ci_eq, (exec_effect h).status_eq, (exec_effect h).params_eq⟩

/-! ## The pc -/

/-- The index adds a register's value or nothing. -/
theorem indexTerm_bounds (i : Byte) (i1 i2 i3 i4 i5 i6 : Word) :
    -(2 ^ 30 : Int) < indexTerm i i1 i2 i3 i4 i5 i6 ∧ indexTerm i i1 i2 i3 i4 i5 i6 < 2 ^ 30 := by
  unfold indexTerm
  split
  case h_7 => decide
  all_goals exact val_bounds _

theorem addrValue_bounds (m : AddrField) : -4095 ≤ addrValue m ∧ addrValue m ≤ 4095 := by
  have := m.mag.isLt
  unfold addrValue
  split <;> omega

/-- An effective address is a 12-bit signed address and a word's value (20 R61). -/
theorem eaValue_bounds (m : AddrField) (s : State) :
    -(2 ^ 30 + 4094) ≤ eaValue m s ∧ eaValue m s ≤ 2 ^ 30 + 4094 := by
  have ha := addrValue_bounds m
  have hi := indexTerm_bounds m.index s.i1 s.i2 s.i3 s.i4 s.i5 s.i6
  unfold eaValue
  omega

/-- Settles O41: a completed instruction stood inside memory, so a pc that falls through is small, and a jump's pc is
an effective address. -/
theorem stepKeepsPcInReach : Obligations.StepKeepsPcInReach := by
  intro s t hs h
  obtain ⟨-, rfl⟩ | ⟨-, hm, hx⟩ := step_next_cases h
  · exact hs
  · have hm := inMemory_iff.1 hm
    unfold PcInReach
    obtain hp | hp | hp := (exec_effect hx).pc_cases <;> rw [hp]
    · omega
    · omega
    · exact eaValue_bounds _ s

/-! ## The status -/

/-- From a running state only HLT completes in another status, and that is HALTED. -/
theorem status_of_exec {i : Instr} {s t : State} (hs : s.status = .running) (h : exec i s = .next t) :
    t.status = if i.group = .halt then .halted else .running := by
  split
  · next hg => rw [(exec_effect h).eq_halt hg]; rfl
  · next hg => rw [(exec_effect h).status_eq hg, hs]

theorem halted_iff_of_exec {i : Instr} {s t : State} (hs : s.status = .running) (h : exec i s = .next t) :
    t.status = .halted ↔ i.group = .halt := by
  simp [status_of_exec hs h]

theorem running_iff_of_exec {i : Instr} {s t : State} (hs : s.status = .running) (h : exec i s = .next t) :
    t.status = .running ↔ i.group ≠ .halt := by
  simp [status_of_exec hs h]

/-- A step of a running machine executes the instruction at its pc. -/
theorem exec_instrAtPc_of_step {s t : State} (hs : s.status = .running) (h : step s = .next t) :
    inMemory s.pc = true ∧ exec (instrAtPc s) s = .next t := by
  obtain ⟨hh, -⟩ | ⟨-, hm, hx⟩ := step_next_cases h
  · rw [hs] at hh; cases hh
  · exact ⟨hm, hx⟩

/-- Settles O44: the step is an instruction's, whose group decides the status. -/
theorem statusTransitions : Obligations.StatusTransitions := by
  intro s t hs h
  obtain ⟨-, hx⟩ := exec_instrAtPc_of_step hs h
  exact ⟨(exec_effect hx).params_eq, halted_iff_of_exec hs hx, running_iff_of_exec hs hx⟩

/-- Settles O58: a machine halted by this step executed HLT, which keeps the pc, the memory and the opcode map, so the
same word stands at the pc. -/
theorem stepKeepsHaltedAtHlt : Obligations.StepKeepsHaltedAtHlt := by
  intro s t hs h ht
  obtain ⟨-, rfl⟩ | ⟨hr, hm, hx⟩ := step_next_cases h
  · exact hs ht
  · have hg : (instrAtPc s).group = .halt := (halted_iff_of_exec hr hx).1 ht
    rw [(exec_effect hx).eq_halt hg]
    exact ⟨hm, hg⟩

/-- Settles O47: by the two arms of `step` for a stopped machine. -/
theorem stoppedMachineStays : Obligations.StoppedMachineStays :=
  fun s => ⟨fun h => by simp [step, h], fun k h => by simp [step, h]⟩

/-! ## Reset -/

/-- Memory reads +0 at construction, for every parameters, registers and start pc (10 R34). -/
theorem read_mem_construct (p : Params) (r : InitRegs) (pc : Int) (a : Nat) :
    (State.construct p r pc).mem.read a = Word.plusZero := rfl

theorem reg_reset (r : Reg) : State.reset.reg r = Word.plusZero := by cases r <;> rfl

/-- Settles O43: the reset memory is empty, its pc is 0 and J is +0. -/
theorem resetMeetsInvariants : Obligations.ResetMeetsInvariants := by
  refine ⟨rfl, ?_, ?_⟩
  · unfold PcInReach; decide
  · unfold LinkInRange; decide

/-- Settles O56: the fields of the construction with the default parameters. -/
theorem resetState : Obligations.ResetState :=
  ⟨read_mem_construct _ _ _, rfl, rfl, reg_reset, rfl, rfl, read_mem_construct⟩

/-- Settles O59: RUNNING is not HALTED. -/
theorem constructedNotHalted : Obligations.ConstructedNotHalted :=
  fun _ _ _ => ⟨fun h => Status.noConfusion h, rfl⟩

end Sys2Proof.Machine
end

section
/-! SUPPORT. Words: the packed form, magnitude and value, WordOf, and the comparison of values (10 R23 to R27). -/

namespace Sys2Proof.Machine

/-! ## The packed form -/

theorem pack_eq_sign_mag (w : Word) : w.pack = (if w.sign = true then 2 ^ 30 else 0) + mag w := by
  unfold Word.pack mag
  split <;> omega

theorem unpack_eq_wordOfMag (n : Nat) : Word.unpack n = wordOfMag (decide (n / 2 ^ 30 % 2 = 1)) n := rfl

theorem pack_mod (w : Word) : w.pack % 2 ^ 30 = mag w := by
  have := mag_lt w
  rw [pack_eq_sign_mag]
  split <;> omega

theorem pack_div (w : Word) : w.pack / 2 ^ 30 = if w.sign = true then 1 else 0 := by
  have := mag_lt w
  rw [pack_eq_sign_mag]
  split <;> omega

theorem unpack_pack (w : Word) : Word.unpack w.pack = w := by
  rw [unpack_eq_wordOfMag]
  apply word_ext_mag
  · rw [wordOfMag_sign, pack_div]
    cases w.sign <;> rfl
  · rw [mag_wordOfMag, pack_mod]

theorem pack_unpack {n : Nat} (hn : n < 2 ^ 31) : (Word.unpack n).pack = n := by
  rw [pack_eq_sign_mag, unpack_eq_wordOfMag, mag_wordOfMag, wordOfMag_sign]
  split <;> simp only [decide_eq_true_eq] at * <;> omega

/-- Settles O6: the packed form is the magnitude with the sign in bit 30. -/
theorem packedFormRoundTrip : Obligations.PackedFormRoundTrip := by
  refine ⟨fun w => ⟨?_, unpack_pack w, pack_mod w, ?_⟩, fun _ => pack_unpack⟩
  · have := mag_lt w
    rw [pack_eq_sign_mag]
    split <;> omega
  · rw [pack_div]
    cases w.sign <;> decide

/-! ## Magnitude, value and WordOf -/

/-- Settles O8: the sum over the five bytes written out. -/
theorem magnitudeAndValue : Obligations.MagnitudeAndValue := by
  refine ⟨fun w => ⟨?_, Nat.le_pred_of_lt (mag_lt w), rfl⟩, val_zero false, val_zero true⟩
  simp only [Finset.sum_range_succ, Finset.sum_range_zero, Word.byte, mag]
  omega

/-- Settles O9: WordOf by the two cases of its bound. -/
theorem wordOfNumber : Obligations.WordOfNumber := by
  intro v
  refine ⟨fun hv o => ⟨_, wordOf_fits hv, val_wordOfMag v hv, ?_⟩,
    fun hv => ⟨⟨_, wordOf_over hv, ?_⟩, wordOf_over hv⟩⟩
  · by_cases h0 : v = 0 <;> simp [h0]
  · exact ⟨by simp, rfl⟩

/-! ## Comparison -/

theorem compareCI_less {l m : Int} : compareCI l m = .less ↔ l < m := by
  unfold compareCI
  split_ifs <;> simp <;> omega

theorem compareCI_equal {l m : Int} : compareCI l m = .equal ↔ l = m := by
  unfold compareCI
  split_ifs <;> simp <;> omega

theorem compareCI_greater {l m : Int} : compareCI l m = .greater ↔ l > m := by
  unfold compareCI
  split_ifs <;> simp <;> omega

/-- The field 0:5 is the whole word. -/
theorem field_wholeWord (w : Word) : field w 5 = w := rfl

/-- CMPA with the whole word compares the values of A and of the memory word. -/
theorem exec_cmpa_wholeWord {m : AddrField} {s : State} (ho : OperandReady m 5 s) :
    exec (.cmpa m 5) s = .next (advance (s.setCI (compareCI (val s.a) (val (memWord m s))))) := by
  refine exec_next.2 (compare_ok.2 ⟨ho, ?_⟩)
  change _ = advance (s.setCI (compareCI (val (field s.a 5)) (val (field (memWord m s) 5))))
  rw [field_wholeWord, field_wholeWord]

/-- Settles O10: CI is the comparison of the two values, and both zeros have the value 0. -/
theorem wordsCompareNumerically : Obligations.WordsCompareNumerically := by
  intro m s ho
  refine ⟨_, exec_cmpa_wholeWord ho, compareCI_less, compareCI_equal, compareCI_greater,
    fun hz => compareCI_equal.2 ?_⟩
  obtain ⟨ha, hm⟩ | ⟨ha, hm⟩ := hz <;> rw [ha, hm] <;> rfl

end Sys2Proof.Machine
end

section
/-! SUPPORT. The comparison indicator is read by the conditional jumps of opcode 39 alone: every other
group means the same under every value of it (10 R29). -/

namespace Sys2Proof.Machine

/-! ## Every operation under another value of CI -/

/-- A computation commutes with setting CI where what follows its first part does. -/
theorem bind_setCI {α : Type} {x : Except Fault α} {k k' : α → Except Fault State} {c : CI}
    (h : ∀ a, k' a = (·.setCI c) <$> k a) : (x >>= k') = (·.setCI c) <$> (x >>= k) := by
  cases x with
  | error e => rfl
  | ok a => exact h a

section

variable (s : State) (c : CI) (m : AddrField) (f : FieldSpec)

/-- A register write and an advance commute with setting CI. -/
theorem advance_setReg_setCI (r : Reg) (w : Word) :
    advance ((s.setCI c).setReg r w) = (advance (s.setReg r w)).setCI c := by
  cases r <;> rfl

theorem arith_setCI (u : Params → Word → Word → Word → Except Fault (Word × Word)) :
    arith u m f (s.setCI c) = (·.setCI c) <$> arith u m f s :=
  bind_setCI fun _ => bind_setCI fun _ => rfl

theorem load_setCI (r : Reg) : load r m f (s.setCI c) = (·.setCI c) <$> load r m f s :=
  bind_setCI fun _ => congrArg Except.ok (advance_setReg_setCI s c r _)

theorem store_setCI (src : Word) : store src m f (s.setCI c) = (·.setCI c) <$> store src m f s := by
  refine bind_setCI fun a => bind_setCI fun _ => bind_setCI fun d => ?_
  unfold memWrite
  split <;> rfl

theorem plainJump_setCI : plainJump m (s.setCI c) = (·.setCI c) <$> plainJump m s :=
  bind_setCI fun _ => rfl

theorem linkingJump_setCI (b : Bool) : linkingJump b m (s.setCI c) = (·.setCI c) <$> linkingJump b m s := by
  refine bind_setCI fun a => ?_
  cases b with
  | false => rfl
  | true => exact bind_setCI fun _ => rfl

theorem transfer_setCI (r : Reg) (op : TransferOp) :
    groupMeaning (.transfer r op) m f (s.setCI c) = (·.setCI c) <$> groupMeaning (.transfer r op) m f s := by
  cases op
  all_goals
    simp only [groupMeaning, increase, decrease, enter, enterNegative, State.setCI_reg]
    exact bind_setCI fun _ => bind_setCI fun _ => congrArg Except.ok (advance_setReg_setCI s c r _)

/-- A group that neither reads nor writes CI does the same whatever CI is, and leaves it as it is. -/
theorem groupMeaning_setCI {g : Group} (hr : g.readsCI = false) (hc : g.isCompare = false) :
    groupMeaning g m f (s.setCI c) = (·.setCI c) <$> groupMeaning g m f s := by
  cases g with
  | arith op => exact arith_setCI s c m f _
  | halt => rfl
  | noOp => rfl
  | load r => exact load_setCI s c m f r
  | store src =>
    have hw : src.word (s.setCI c) = src.word s := by cases src <;> simp [StoreSrc.word]
    simp only [groupMeaning, hw]
    exact store_setCI s c m f _
  | jump => exact linkingJump_setCI s c m true
  | jumpNoSave => exact plainJump_setCI s c m
  | jumpCI p => cases hr
  | jumpReg r p =>
    simp only [groupMeaning, State.setCI_reg]
    exact linkingJump_setCI s c m _
  | transfer r op => exact transfer_setCI s c m f r op
  | cmp r => cases hc

/-- A compare does not read the CI it replaces. -/
theorem groupMeaning_setCI_of_isCompare {g : Group} (hc : g.isCompare = true) :
    groupMeaning g m f (s.setCI c) = groupMeaning g m f s := by
  cases g with
  | cmp r => simp only [groupMeaning, State.setCI_reg]; rfl
  | _ => cases hc

end

theorem mapNext_finish (g : State → State) (r : Except Fault State) : mapNext g (finish r) = finish (g <$> r) := by
  cases r <;> rfl

/-- An instruction that does not read CI does the same under every CI. -/
theorem exec_setCI {i : Instr} (s : State) (c : CI) (hr : i.group.readsCI = false) :
    exec i (s.setCI c) = mapNext (fun t => if i.group.isCompare = true then t else t.setCI c) (exec i s) := by
  rw [exec_eq_meaning, exec_eq_meaning, mapNext_finish]
  cases hc : i.group.isCompare with
  | false => simp [groupMeaning_setCI s c _ _ hr hc]
  | true => simp [groupMeaning_setCI_of_isCompare s c _ _ hc]

/-! ## The words that read CI -/

theorem encode_of_readsCI {i : Instr} (h : i.group.readsCI = true) :
    (encode i).opcode.toNat = 39 ∧ 4 ≤ (encode i).modifier.toNat ∧ (encode i).modifier.toNat ≤ 9 := by
  cases i
  case jl | je | jg | jge | jne | jle => simp [encode, opcode_instrOf, modifier_instrOf]
  all_goals cases h

theorem readsCI_decodeJump {f : FieldSpec} (m : AddrField) (h4 : 4 ≤ f.toNat) (h9 : f.toNat ≤ 9) :
    (decodeJump m f).group.readsCI = true := by
  have hf : f.toNat = 4 ∨ f.toNat = 5 ∨ f.toNat = 6 ∨ f.toNat = 7 ∨ f.toNat = 8 ∨ f.toNat = 9 := by omega
  rcases hf with hf | hf | hf | hf | hf | hf
  all_goals
    rw [decodeJump, hf]
    rfl

/-- The words that read CI are those with C = 39 and F in 4..9 (30 R87). -/
theorem readsCI_decode_iff (w : Word) :
    (decode w).group.readsCI = true ↔ w.opcode.toNat = 39 ∧ 4 ≤ w.modifier.toNat ∧ w.modifier.toNat ≤ 9 := by
  constructor
  · intro h
    simpa only [encode_decode] using encode_of_readsCI h
  · rintro ⟨hc, h4, h9⟩
    rw [← instrOf_eq_of_toNat (c := 39) hc rfl, decode_op39]
    exact readsCI_decodeJump _ h4 h9

/-- Settles O36: written by compares alone, from the effect of the group; read by the conditional jumps alone, from the
commutation of every other group with setting CI. -/
theorem comparisonIndicator : Obligations.ComparisonIndicator :=
  ⟨fun _ _ _ h => (exec_effect h).ci_eq, fun _ s c => exec_setCI s c, readsCI_decode_iff, fun _ _ _ => rfl⟩

end Sys2Proof.Machine
end

section
/-! SUPPORT. Field specifications and the two field units, byte by byte (20 R55 to R60). -/

namespace Sys2Proof.Machine

/-! ## Words by their bytes -/

/-- Byte k of a word is digit k of its magnitude in base 64; above byte 4 both are 0. -/
theorem toNat_byte (w : Word) (k : Nat) : (w.byte k).toNat = mag w / 64 ^ k % 64 := by
  have h0 := w.b0.isLt
  have h1 := w.b1.isLt
  have h2 := w.b2.isLt
  have h3 := w.b3.isLt
  have h4 := w.b4.isLt
  match k with
  | 0 | 1 | 2 | 3 | 4 =>
    simp only [Word.byte, mag]
    omega
  | k + 5 =>
    have hk : mag w < 64 ^ (k + 5) :=
      (mag_lt w).trans_le (Nat.pow_le_pow_right (n := 64) (by decide) (Nat.le_add_left 5 k))
    rw [Nat.div_eq_of_lt hk]
    rfl

/-- The digits of a number below 2^30 determine the magnitude. -/
theorem mag_eq_of_digits {w : Word} {n : Nat} (hn : n < 2 ^ 30)
    (h : ∀ k, k < 5 → (w.byte k).toNat = n / 64 ^ k % 64) : mag w = n := by
  have h0 := h 0 (by decide)
  have h1 := h 1 (by decide)
  have h2 := h 2 (by decide)
  have h3 := h 3 (by decide)
  have h4 := h 4 (by decide)
  simp only [Word.byte] at h0 h1 h2 h3 h4
  unfold mag
  omega

/-- Two words of one sign and the same bytes are one word. -/
theorem word_ext_byte {v w : Word} (hs : v.sign = w.sign) (h : ∀ k, k < 5 → v.byte k = w.byte k) : v = w :=
  word_ext_mag hs (mag_eq_of_digits (mag_lt w) fun k hk => by rw [h k hk, toNat_byte])

/-- Digit k of the low c digits of a number. -/
theorem mod_pow_digit (n c k : Nat) : n % 64 ^ c / 64 ^ k % 64 = if k < c then n / 64 ^ k % 64 else 0 := by
  split
  · next h =>
    obtain ⟨d, rfl⟩ := Nat.exists_eq_add_of_lt h
    rw [Nat.add_assoc, pow_add, Nat.mod_mul_right_div_self, Nat.mod_mod_of_dvd _ (Dvd.intro_left _ (pow_succ ..).symm)]
  · next h =>
    have hlt : n % 64 ^ c < 64 ^ k :=
      (Nat.mod_lt _ (by positivity)).trans_le (Nat.pow_le_pow_right (by decide) (by omega))
    rw [Nat.div_eq_of_lt hlt]

/-- A word whose bytes are c bytes of `w` from byte lo on, zeros above, has those digits of the magnitude. -/
theorem mag_eq_of_bytes {v w : Word} {lo c : Nat} (hc : c ≤ 5)
    (h : ∀ k, k < 5 → v.byte k = if k < c then w.byte (lo + k) else 0) : mag v = mag w / 64 ^ lo % 64 ^ c := by
  refine mag_eq_of_digits ?_ fun k hk => ?_
  · exact (Nat.mod_lt _ (by positivity)).trans_le (Nat.pow_le_pow_right (n := 64) (by decide) hc)
  · rw [h k hk, mod_pow_digit]
    split
    · rw [toNat_byte, pow_add, Nat.div_div_eq_div_mul]
    · rfl

/-! ## Field specifications -/

theorem fieldOK_iff {f : FieldSpec} : fieldOK f = true ↔ fieldL f ≤ fieldR f ∧ fieldR f ≤ 5 := by
  simp [fieldOK]

/-- The field ends above byte 5 - max(L, 1), the byte at its leftmost position (20 R56). -/
theorem fieldLo_add_fieldCount {f : FieldSpec} (hf : fieldOK f = true) :
    fieldLo f + fieldCount f = 6 - max (fieldL f) 1 := by
  have hLR := fieldOK_iff.1 hf
  unfold fieldLo fieldCount
  split <;> omega

/-- A field lies inside the word. -/
theorem field_end_le {f : FieldSpec} (hf : fieldOK f = true) : fieldLo f + fieldCount f ≤ 5 := by
  rw [fieldLo_add_fieldCount hf]
  omega

/-- Settles O11: position p is byte 5 - p; the table lists all 64 values. -/
theorem fieldSpecTable : Obligations.FieldSpecTable := by
  refine ⟨fun f => ⟨fieldOK_iff, (Nat.div_add_mod _ 8).symm, fun hf i => ?_⟩, by decide⟩
  obtain ⟨-, hR⟩ := fieldOK_iff.1 hf
  rw [fieldLo_add_fieldCount hf, fieldLo]
  constructor
  · exact fun hi => ⟨5 - i, by omega⟩
  · rintro ⟨p, hp⟩
    omega

/-! ## The field extractor and the field writer -/

theorem sign_field (w : Word) (f : FieldSpec) : (field w f).sign = if fieldL f = 0 then w.sign else false := rfl

theorem byte_field (w : Word) (f : FieldSpec) {k : Nat} (hk : k < 5) :
    (field w f).byte k = if k < fieldCount f then w.byte (fieldLo f + k) else 0 := by
  interval_cases k <;> rfl

theorem sign_setField (d : Word) (f : FieldSpec) (s : Word) :
    (setField d f s).sign = if fieldL f = 0 then s.sign else d.sign := rfl

theorem byte_setField (d : Word) (f : FieldSpec) (s : Word) {i : Nat} (hi : i < 5) :
    (setField d f s).byte i =
      if fieldLo f ≤ i ∧ i < fieldLo f + fieldCount f then s.byte (i - fieldLo f) else d.byte i := by
  interval_cases i <;> rfl

/-- Byte k of the field, counted from its lowest, is the source's byte k. -/
theorem byte_setField_in {f : FieldSpec} (hf : fieldOK f = true) (d s : Word) {k : Nat} (hk : k < fieldCount f) :
    (setField d f s).byte (fieldLo f + k) = s.byte k := by
  have hle := field_end_le hf
  rw [byte_setField d f s (by omega), if_pos (by omega), Nat.add_sub_cancel_left]

/-- A byte outside the field is the destination's. -/
theorem byte_setField_out (d : Word) (f : FieldSpec) (s : Word) {i : Nat} (hi : i < 5)
    (ho : i < fieldLo f ∨ fieldLo f + fieldCount f ≤ i) : (setField d f s).byte i = d.byte i := by
  rw [byte_setField d f s hi, if_neg (by omega)]

/-- What the writer put into a field reads back, as the source's low bytes. -/
theorem byte_field_setField {f : FieldSpec} (hf : fieldOK f = true) (d s : Word) {k : Nat} (hk : k < 5) :
    (field (setField d f s) f).byte k = if k < fieldCount f then s.byte (0 + k) else 0 := by
  rw [byte_field _ _ hk, Nat.zero_add]
  split
  · next hc => rw [byte_setField_in hf d s hc]
  · rfl

/-- Writing back what was extracted changes nothing. -/
theorem setField_field {f : FieldSpec} (hf : fieldOK f = true) (w : Word) : setField w f (field w f) = w := by
  have hle := field_end_le hf
  apply word_ext_byte
  · rw [sign_setField, sign_field]
    split <;> rfl
  · intro i hi
    rw [byte_setField _ _ _ hi]
    split
    · next h => rw [byte_field _ _ (by omega), if_pos (by omega), Nat.add_sub_cancel' h.1]
    · rfl

/-- The second of two equal writes to a field changes nothing. -/
theorem setField_setField (d : Word) (f : FieldSpec) (s : Word) :
    setField (setField d f s) f s = setField d f s := by
  apply word_ext_byte
  · simp only [sign_setField]
    split <;> rfl
  · intro i hi
    simp only [byte_setField _ _ _ hi]
    split <;> rfl

/-- Settles O12: byte by byte, and the magnitude is that of the field's bytes. -/
theorem fieldExtractor : Obligations.FieldExtractor := by
  intro w f hf
  have hle := field_end_le hf
  exact ⟨sign_field w f, fun k => byte_field w f, mag_eq_of_bytes (by omega) fun k => byte_field w f,
    field_wholeWord w, rfl⟩

/-- Settles O13: byte by byte, and what reads back is the source's low bytes. -/
theorem fieldWriter : Obligations.FieldWriter := by
  intro d s f hf
  have hle := field_end_le hf
  have hmag : mag (field (setField d f s) f) = mag s / 64 ^ 0 % 64 ^ fieldCount f :=
    mag_eq_of_bytes (by omega) fun k => byte_field_setField hf d s
  rw [pow_zero, Nat.div_one] at hmag
  exact ⟨sign_setField d f s, fun k => byte_setField_in hf d s, fun i => byte_setField_out d f s, hmag, rfl, rfl⟩

/-! ## The field units -/

/-- FX on a valid specification answers the extracted field. -/
theorem FX_of_fieldOK {f : FieldSpec} (hf : fieldOK f = true) (w : Word) : FX w f = ⟨field w f, false⟩ := if_pos hf

/-- FW on a valid specification answers the written word. -/
theorem FW_of_fieldOK {f : FieldSpec} (hf : fieldOK f = true) (d s : Word) : FW d f s = ⟨setField d f s, false⟩ :=
  if_pos hf

theorem FX_bad (w : Word) (f : FieldSpec) : (FX w f).bad = !fieldOK f := by
  unfold FX
  cases fieldOK f <;> rfl

theorem FW_bad (d : Word) (f : FieldSpec) (s : Word) : (FW d f s).bad = !fieldOK f := by
  unfold FW
  cases fieldOK f <;> rfl

/-- Settles O14: by the round trip of the field, and the units' two cases. -/
theorem fieldRoundTrip : Obligations.FieldRoundTrip := by
  intro d w f
  refine ⟨fun hf => ⟨setField_field hf w, ?_, ?_⟩, ?_, ?_⟩
  · rw [FX_of_fieldOK hf]
  · rw [FW_of_fieldOK hf]
  · rw [FX_bad, ← fieldOK_iff, Bool.not_eq_true', Bool.not_eq_true]
  · rw [FW_bad, ← fieldOK_iff, Bool.not_eq_true', Bool.not_eq_true]

end Sys2Proof.Machine
end

section
/-! SUPPORT. The effective address: the signed address plus what the index adds (20 R61, R62). -/

namespace Sys2Proof.Machine

/-- An index field of 0..6 gives the address plus what that index adds. -/
theorem ea_of_index {m : AddrField} {s : State} {k : Byte} (h : m.index = k) (hk : k.toNat ≤ 6) :
    ea m s = .ok (addrValue m + indexTerm k s.i1 s.i2 s.i3 s.i4 s.i5 s.i6) := by
  subst h
  exact ea_ok.2 ⟨decide_eq_true hk, rfl⟩

theorem indexOK_iff {m : AddrField} : indexOK m = true ↔ m.index.toNat ≤ 6 := by
  simp [indexOK]

/-- The address of an instruction word is the value of its field 0:2 (30 R82). -/
theorem addrValue_addrField (w : Word) : addrValue w.addrField = val (field w 2) := by
  have h3 := w.b3.isLt
  have h4 := w.b4.isLt
  have hm : w.addrMag.toNat = mag (field w 2) := by
    change (64 * w.b4.toNat + w.b3.toNat) % 2 ^ 12 = w.b3.toNat + 64 * w.b4.toNat + 4096 * 0 + 262144 * 0 + 16777216 * 0
    omega
  change (if w.sign = true then -(w.addrMag.toNat : Int) else w.addrMag.toNat) = _
  rw [hm]
  rfl

/-- AG flags the index fields 7..63. -/
theorem AG_bad (w i1 i2 i3 i4 i5 i6 : Word) : (AG w i1 i2 i3 i4 i5 i6).bad = decide (6 < w.indexField.toNat) := by
  unfold AG
  split
  · next h => exact (decide_eq_false (Nat.not_lt.2 (indexOK_iff.1 h))).symm
  · next h => exact (decide_eq_true (Nat.not_le.1 (h ∘ indexOK_iff.2))).symm

/-- Where there is an effective address, AG gives it. -/
theorem AG_ea {w : Word} {s : State} {a : Int} (h : ea w.addrField s = .ok a) :
    (AG w s.i1 s.i2 s.i3 s.i4 s.i5 s.i6).ea = a := by
  obtain ⟨hi, rfl⟩ := ea_ok.1 h
  rw [AG, if_pos hi]
  rfl

/-- Settles O15: by the index field, and the bounds of a 12-bit address and a word's value. -/
theorem effectiveAddress : Obligations.EffectiveAddress := by
  refine ⟨fun m s => ⟨fun h => ?_, fun h => ea_of_index h (by decide), fun h => ea_of_index h (by decide),
    fun h => ea_of_index h (by decide), fun h => ea_of_index h (by decide), fun h => ea_of_index h (by decide),
    fun h => ea_of_index h (by decide), fun h => ?_, fun a h => ?_⟩,
    addrValue_addrField, fun w s => ⟨AG_bad w _ _ _ _ _ _, fun a => AG_ea⟩⟩
  · rw [ea_of_index h (by decide)]
    exact congrArg Except.ok (Int.add_zero _)
  · exact ea_error.2 ⟨fun hi => Nat.not_lt.2 (indexOK_iff.1 hi) h, rfl⟩
  · obtain ⟨-, rfl⟩ := ea_ok.1 h
    exact eaValue_bounds m s

end Sys2Proof.Machine
end

section
/-! SUPPORT. What an instruction does to memory: nothing but a store writes it, and a store writes one word inside it
(20 R50 to R53, R63, R64, R69). -/

namespace Sys2Proof.Machine

/-! ## Instructions -/

theorem Group.isStore_of_links {g : Group} (h : g.links = true) : g.isStore = false := by
  cases g with
  | jump | jumpCI _ | jumpReg _ _ => rfl
  | _ => cases h

/-- A completed instruction leaves the memory, or is a store, which writes the word at the effective address. -/
theorem Effect.mem_cases {m : AddrField} {s t : State} {g : Group} (h : Effect m s g t) :
    (g.isStore = false ∧ t.mem = s.mem) ∨
    (g.isStore = true ∧ inMemory (eaValue m s) = true ∧ ∃ w, t.mem = s.mem.write (eaValue m s).toNat w) := by
  cases h with
  | store src w hm => exact .inr ⟨rfl, hm, w, rfl⟩
  | link j hg => exact .inl ⟨Group.isStore_of_links hg, by simp⟩
  | notTaken hg => exact .inl ⟨Group.isStore_of_links hg, rfl⟩
  | _ => exact .inl ⟨rfl, by simp [halt]⟩

/-- An instruction that is no store leaves the memory, equal as data. -/
theorem mem_eq_of_exec {i : Instr} {s t : State} (hi : i.group.isStore = false) (h : exec i s = .next t) :
    t.mem = s.mem := by
  obtain ⟨-, hm⟩ | ⟨hs, -⟩ := (exec_effect h).mem_cases
  · exact hm
  · rw [hi] at hs; cases hs

/-- Settles O40: an instruction that writes memory writes inside it, and such a write keeps the canonical form. -/
theorem stepKeepsCanonicalMemory : Obligations.StepKeepsCanonicalMemory := by
  intro s t hs h
  obtain ⟨-, rfl⟩ | ⟨-, -, hx⟩ := step_next_cases h
  · exact hs
  · unfold CanonicalMemory at *
    obtain ⟨-, hm⟩ | ⟨-, ha, w, hm⟩ := (exec_effect hx).mem_cases <;> rw [hm]
    · exact hs
    · have ha := inMemory_iff.1 ha
      exact Memory.wf_write _ _ _ hs (by omega)

/-- Settles O34: a write leaves every other address. -/
theorem memoryFrame : Obligations.MemoryFrame := by
  intro i s t b h
  refine ⟨fun hi => by rw [mem_eq_of_exec hi h], fun hi hb => ?_⟩
  obtain ⟨hn, -⟩ | ⟨-, ha, w, hm⟩ := (exec_effect h).mem_cases
  · rw [hi] at hn; cases hn
  · have ha := inMemory_iff.1 ha
    rw [hm, Memory.read_write_other _ _ _ _ (by omega)]

/-! ## Stores -/

/-- A store completes where its operand is usable, with the merged word written and the pc advanced (43 R150). -/
theorem exec_store {i : Instr} {src : StoreSrc} {s t : State} (hi : i.group = .store src) :
    exec i s = .next t ↔ OperandReady i.addrField i.modifier s ∧
      t = advance (s.setMem (s.mem.write (eaValue i.addrField s).toNat
        (setField (memWord i.addrField s) i.modifier (src.word s)))) := by
  rw [exec_next, hi]
  exact store_ok

/-- What a store takes from its source does not depend on memory. -/
theorem StoreSrc.word_setMem (src : StoreSrc) (s : State) (M : Memory) : src.word (s.setMem M) = src.word s := by
  cases src with
  | reg r => exact s.setMem_reg M r
  | zero => rfl

/-- MemWrite is read back and is idempotent (20 R64). -/
theorem memWrite_repeat {s t : State} {a : Int} {w : Word} (h : memWrite s a w = .ok t) :
    memRead t a = .ok w ∧ memWrite t a w = .ok t := by
  obtain ⟨ha, rfl⟩ := memWrite_ok.1 h
  refine ⟨memRead_ok.2 ⟨ha, by simp⟩, memWrite_ok.2 ⟨ha, ?_⟩⟩
  rw [State.setMem_mem, Memory.write_write]
  rfl

/-- Merging the same bytes into the same word once more leaves the memory. -/
theorem Memory.write_setField_repeat (M : Memory) (a : Nat) (f : FieldSpec) (w : Word) :
    let M' := M.write a (setField (M.read a) f w)
    M'.write a (setField (M'.read a) f w) = M' := by
  simp only [Memory.read_write_same, setField_setField, Memory.write_write]

theorem Group.isStore_iff {g : Group} : g.isStore = true ↔ ∃ src, g = .store src := by
  constructor
  · intro h
    cases g with
    | store src => exact ⟨src, rfl⟩
    | _ => cases h
  · rintro ⟨src, rfl⟩
    rfl

/-- A store executed again at its own pc finds the same source, the same address and the bytes it wrote. -/
theorem exec_store_repeat {i : Instr} {s t : State} (hi : i.group.isStore = true) (h : exec i s = .next t) :
    exec i (t.setPc s.pc) = .next t := by
  obtain ⟨src, hg⟩ := Group.isStore_iff.1 hi
  obtain ⟨ho, ht⟩ := (exec_store hg).1 h
  have hmem := Memory.write_setField_repeat s.mem (eaValue i.addrField s).toNat i.modifier (src.word s)
  have hpc : t.setPc s.pc = s.setMem t.mem := by rw [ht]; rfl
  have hdo : exec i (s.setMem t.mem) = .next (advance (s.setMem t.mem)) := by
    refine (exec_store hg).2 ⟨ho, ?_⟩
    rw [StoreSrc.word_setMem, ht]
    exact congrArg (fun M => advance (s.setMem M)) hmem.symm
  rw [hpc, hdo, ht]
  rfl

/-- Settles O39: only stores write memory, and the second of two equal writes changes nothing. -/
theorem repeatedAccess : Obligations.RepeatedAccess :=
  ⟨fun _ _ _ => mem_eq_of_exec, fun _ _ _ _ => memWrite_repeat, fun _ _ _ => exec_store_repeat⟩

/-! ## The fetch after a store -/

/-- A step of a running machine inside memory executes the instruction at its pc (70 R375, R376). -/
theorem step_of_running {s : State} (hs : s.status = .running) (hm : inMemory s.pc = true) :
    step s = exec (instrAtPc s) s := by
  simp only [step, hs, fetch_ok.2 ⟨hm, rfl⟩]
  rfl

/-- Settles O48: the store's address is the next pc, where the fetch reads the merged word. -/
theorem storeSeenByNextFetch : Obligations.StoreSeenByNextFetch := by
  intro i src s t hi hs h hea
  obtain ⟨⟨-, -, hm⟩, ht⟩ := (exec_store hi).1 h
  rw [hea] at hm
  have hpc : t.pc = s.pc + 1 := by rw [ht]; rfl
  have hst : t.status = .running := by rw [ht]; exact hs
  have hread : t.mem.read (s.pc + 1).toNat =
      setField (s.mem.read (s.pc + 1).toNat) i.modifier (src.word s) := by
    simp [ht, memWord, hea]
  rw [step_of_running hst (hpc ▸ hm), instrAtPc, hpc, hread, (exec_effect h).params_eq]

end Sys2Proof.Machine
end

section
/-! SUPPORT. The encoding: the round trips, the decoder against Decode by ranges, the no-op words, the host's word
builder, and that every instruction has a meaning (30 R80 to R93). -/

namespace Sys2Proof.Machine

/-! ## The round trips -/

/-- The decoder gives a no-op word of a shared opcode only where no arm before it takes F (30 R90). -/
theorem wellFormed_decode (w : Word) : (decode w).wellFormed = true := by
  unfold decode decodeSpecial decodeJump decodeJumpA decodeJumpI1 decodeJumpI2 decodeJumpI3 decodeJumpI4 decodeJumpI5
    decodeJumpI6 decodeJumpX decodeTransferA decodeTransferI1 decodeTransferI2 decodeTransferI3 decodeTransferI4
    decodeTransferI5 decodeTransferI6 decodeTransferX
  dsimp only
  repeat' split
  all_goals simp only [Instr.wellFormed, unlistedSpecial, unlistedJump, unlistedJumpReg, unlistedAddr, bne_iff_ne,
    Bool.or_eq_true, beq_iff_eq, decide_eq_true_eq, imp_false] at *
  all_goals omega

/-- Settles O1: a no-op word keeps a modifier that no other row claims, every other row is known by its numbers. -/
theorem decodeEncodeRoundTrip : Obligations.DecodeEncodeRoundTrip := decode_encode

/-- Settles O2: each arm of the decoder is the row of the encoder with the same numbers. -/
theorem encodeDecodeRoundTrip : Obligations.EncodeDecodeRoundTrip := fun w => ⟨wellFormed_decode w, encode_decode w⟩

/-! ## The no-op words by their numbers -/

/-- The numbers C and F of the words that 30 R90 makes no-op words: an unknown opcode, or an unlisted sub-mode. -/
def NoOpNumbers (w : Word) : Prop :=
  w.opcode.toNat ∈ [0, 6, 7, 16, 17, 18, 19, 20, 21, 22, 23, 34, 35, 36, 37, 38] ∨
  w.opcode.toNat = 5 ∧ w.modifier.toNat ≠ 2 ∨
  w.opcode.toNat = 39 ∧ (w.modifier.toNat = 2 ∨ w.modifier.toNat = 3 ∨ 10 ≤ w.modifier.toNat) ∨
  40 ≤ w.opcode.toNat ∧ w.opcode.toNat ≤ 47 ∧ 6 ≤ w.modifier.toNat ∨
  48 ≤ w.opcode.toNat ∧ w.opcode.toNat ≤ 55 ∧ 4 ≤ w.modifier.toNat

/-- The unknown opcodes lie in four gaps between the groups of 30 R85. -/
theorem mem_unknownOpcodes_iff (c : Nat) :
    c ∈ [0, 6, 7, 16, 17, 18, 19, 20, 21, 22, 23, 34, 35, 36, 37, 38] ↔
      c = 0 ∨ 6 ≤ c ∧ c ≤ 7 ∨ 16 ≤ c ∧ c ≤ 23 ∨ 34 ≤ c ∧ c ≤ 38 := by
  simp only [List.mem_cons, List.not_mem_nil, or_false]
  omega

theorem jumpGroup_eq_noOp_iff (f : Nat) : jumpGroup f = .noOp ↔ f = 2 ∨ f = 3 ∨ 10 ≤ f := by
  unfold jumpGroup
  split
  case h_9 => -- the last arm: F is none of 0, 1, 4..9
    simp only [imp_false, true_iff] at *
    omega
  all_goals decide

/-- Decode by ranges answers a no-op exactly on the no-op words. -/
theorem classify_eq_noOp_iff (w : Word) : classify w = .noOp ↔ NoOpNumbers w := by
  simp only [classify, NoOpNumbers, mem_unknownOpcodes_iff, ite_eq_iff, reduceCtorEq, jumpGroup_eq_noOp_iff, and_false,
    false_or, and_true]
  omega

/-! ## The decoder against Decode by ranges -/

/-- The group of an instruction by its name is the one its word has by ranges (30 R91): the no-op words of the shared
opcodes by their modifiers, every other word by its numbers alone. -/
theorem classify_encode (i : Instr) (hi : i.wellFormed = true) : classify (encode i) = i.group := by
  have hn := classify_eq_noOp_iff (encode i)
  cases i
  case nopOp5 m f => exact hn.2 (.inr (.inl ⟨rfl, bne_iff_ne.1 hi⟩))
  case nopOp39 m f =>
    simp only [Instr.wellFormed, unlistedJump, Bool.or_eq_true, beq_iff_eq, decide_eq_true_eq, or_assoc] at hi
    exact hn.2 (.inr (.inr (.inl ⟨rfl, hi⟩)))
  case nopOp40 | nopOp41 | nopOp42 | nopOp43 | nopOp44 | nopOp45 | nopOp46 | nopOp47 =>
    exact hn.2 (.inr (.inr (.inr (.inl ⟨of_decide_eq_true rfl, of_decide_eq_true rfl, of_decide_eq_true hi⟩))))
  case nopOp48 | nopOp49 | nopOp50 | nopOp51 | nopOp52 | nopOp53 | nopOp54 | nopOp55 =>
    exact hn.2 (.inr (.inr (.inr (.inr ⟨of_decide_eq_true rfl, of_decide_eq_true rfl, of_decide_eq_true hi⟩))))
  all_goals rfl

theorem group_decode (w : Word) : (decode w).group = classify w := by
  rw [← classify_encode _ (wellFormed_decode w), encode_decode]

/-- Settles O3: a word is the word of the well-formed instruction it decodes to, which has its group by ranges and its
operand fields. -/
theorem decodeAgreesWithRanges : Obligations.DecodeAgreesWithRanges :=
  fun w => ⟨group_decode w, addrField_decode w, modifier_decode w⟩

/-- An instruction of the no-op group advances the pc alone (30 R90). -/
theorem exec_noOp {i : Instr} (h : i.group = .noOp) (s : State) : exec i s = .next { s with pc := s.pc + 1 } := by
  rw [exec_eq_meaning, h]
  rfl

/-- Settles O28: the decoder's group is the one by ranges, and the meaning of a no-op reads no operand. -/
theorem noOpWords : Obligations.NoOpWords :=
  ⟨fun w => group_decode w ▸ classify_eq_noOp_iff w, fun _ s h => exec_noOp h s⟩

/-! ## The host's word builder -/

/-- The address operand the host names by a signed address and an index (30 R92). -/
def hostAddrField (address : Int) (index : Nat) : AddrField :=
  ⟨decide (address < 0), BitVec.ofNat 12 address.natAbs, BitVec.ofNat 6 index⟩

theorem addrValue_hostAddrField {address : Int} (h : address.natAbs ≤ 4095) (index : Nat) :
    addrValue (hostAddrField address index) = address := by
  have hm : (BitVec.ofNat 12 address.natAbs).toNat = address.natAbs := Nat.mod_eq_of_lt (by omega)
  simp only [addrValue, hostAddrField, hm, decide_eq_true_eq]
  split <;> omega

/-- In range the builder gives the word of its arguments as instruction fields. -/
theorem instrWord_eq_instrOf {op : Nat} {address : Int} {index f : Nat}
    (h : op ≤ 63 ∧ address.natAbs ≤ 4095 ∧ index ≤ 6 ∧ f ≤ 63) :
    instrWord op address index f =
      some (instrOf (BitVec.ofNat 6 op) (BitVec.ofNat 6 f) (hostAddrField address index)) := by
  have hm : (BitVec.ofNat 12 address.natAbs).toNat = address.natAbs := Nat.mod_eq_of_lt (by omega)
  rw [instrWord, if_pos h, instrOf, hostAddrField, hm]

/-- Settles O7: in range the word's fields are the arguments, which fit them; out of range the guard refuses. -/
theorem hostWordBuilder : Obligations.HostWordBuilder := by
  intro op address index f
  refine ⟨fun hop haddr hindex hf => ?_, fun h => if_neg (by omega), rfl⟩
  refine ⟨_, instrWord_eq_instrOf ⟨hop, haddr, hindex, hf⟩, ?_, ?_, ?_, ?_, rfl⟩
  · exact Nat.mod_eq_of_lt (by omega)
  · exact Nat.mod_eq_of_lt (by omega)
  · exact Nat.mod_eq_of_lt (by omega)
  · rw [addrField_instrOf, addrValue_hostAddrField haddr]

/-! ## Every instruction has a meaning -/

theorem exec_ne_refused (i : Instr) (s : State) (q : Refusal) : exec i s ≠ .refused q := by
  rw [exec_eq_meaning]
  exact finish_ne_refused

/-- A step that refuses would be a running machine's, inside memory, and its instruction's refusal. -/
theorem step_ne_refused (s : State) (q : Refusal) : step s ≠ .refused q := by
  unfold step
  split
  · exact nofun
  · exact nofun
  · split
    · exact nofun
    · exact exec_ne_refused _ s q

/-- Settles O31: exec only finishes its group's meaning, and a step answers what exec or a fault does. -/
theorem nothingIsRefused : Obligations.NothingIsRefused :=
  fun i s q => ⟨exec_ne_refused i s q, step_ne_refused s q⟩

/-! ## Packed words -/

/-- The packed word of a well-formed instruction decodes to it. -/
theorem decodeTableWord_of_pack_encode {i : Instr} {n : Nat} (hi : i.wellFormed = true) (hn : (encode i).pack = n) :
    decodeTableWord 32 n = some i := by
  subst hn
  obtain ⟨hlt, hunpack, -, -⟩ := packedFormRoundTrip.1 (encode i)
  have hmod : (encode i).pack % 2 ^ 32 = (encode i).pack := Nat.mod_eq_of_lt (by omega)
  simp only [decodeTableWord, hmod, decodePacked, if_pos (show _ < 2147483648 from hlt), hunpack, decode_encode i hi]

/-- Settles O5: each numeral is the packed word of the well-formed instruction beside it. -/
theorem specWordsDecode : Obligations.SpecWordsDecode := by
  unfold Obligations.SpecWordsDecode
  and_intros
  all_goals exact decodeTableWord_of_pack_encode (by decide) (by decide)

end Sys2Proof.Machine
end

section
/-! SUPPORT. The arithmetic instructions write what the arithmetic unit answers, and what the unit answers for each
operation (40 R100 to R105). -/

namespace Sys2Proof.Machine

/-! ## The instructions and the unit -/

/-- With a usable operand the four instructions finish with the unit's answer: its words in A and X and the pc
advanced, or its fault (40 R104). -/
theorem exec_arith {i : Instr} {op : AuOp} {s : State} (hi : i.group = .arith op)
    (ho : OperandReady i.addrField i.modifier s) :
    exec i s = finish ((fun ax => { s with a := ax.1, x := ax.2, pc := s.pc + 1 }) <$>
      AU op s.params s.a s.x (operandWord i.addrField i.modifier s)) := by
  have hv : operand i.addrField i.modifier s = .ok (operandWord i.addrField i.modifier s) := operand_ok.2 ⟨ho, rfl⟩
  rw [exec_eq_meaning, hi, groupMeaning, arith, hv, ok_bind]
  rfl

/-- Settles O55: by the one equation of the four instructions; ADD and SUB give X back. -/
theorem arithmeticUnitAgrees : Obligations.ArithmeticUnitAgrees := by
  intro i op s hi ho
  rw [exec_arith hi ho]
  exact ⟨fun a x hu => ⟨by rw [hu]; rfl, AU_addSub_x hu⟩, fun k hu => by rw [hu]; rfl⟩

/-! ## ADD and SUB -/

/-- ZWordOf of a number that fits is its word, a zero signed by the policy (10 R26). -/
theorem zWordOf_isWordOf {p : Params} {v : Int} (old : Word) (h : Fits v) :
    ∃ w, zWordOf p v old = .ok w ∧ IsWordOf w v (zeroSign p old) :=
  zWordOf_fits old h

/-- A number that does not fit is no zero, so ZWordOf follows ARITH_OVERFLOW as WordOf does (10 R25). -/
theorem zWordOf_over {p : Params} {v : Int} (old : Word) (h : ¬Fits v) :
    zWordOf p v old = if p.arithOverflow = .fault then .error .arithmeticOverflow
      else .ok (wordOfMag (decide (v < 0)) (v.natAbs % 2 ^ 30)) := by
  have hv : v ≠ 0 := by rintro rfl; exact h (Nat.two_pow_pos 30)
  rw [zWordOf, if_neg fun hz => hv hz.1, wordOf_over h]

theorem wordOfMag_isTruncationOf (v : Int) : IsTruncationOf (wordOfMag (decide (v < 0)) (v.natAbs % 2 ^ 30)) v :=
  ⟨by rw [mag_wordOfMag, Nat.mod_mod], rfl⟩

/-- The unit's ADD is ZWordOf of the sum, with X (40 R100). -/
theorem AU_add (p : Params) (a x m : Word) : AU .add p a x m = (·, x) <$> zWordOf p (val a + val m) a := by
  rw [AU, auAdd]
  cases zWordOf p (val a + val m) a <;> rfl

/-- The unit's SUB is ZWordOf of the difference, with X (40 R101). -/
theorem AU_sub (p : Params) (a x m : Word) : AU .sub p a x m = (·, x) <$> zWordOf p (val a - val m) a := by
  rw [AU, auSub]
  cases zWordOf p (val a - val m) a <;> rfl

/-- ADD and SUB finish with ZWordOf of the sum or the difference in A. -/
theorem exec_addSub {m : AddrField} {f : FieldSpec} {s : State} {i : Instr} {v : Int} (ho : OperandReady m f s)
    (hi : i = .add m f ∧ v = val s.a + val (operandWord m f s) ∨
      i = .sub m f ∧ v = val s.a - val (operandWord m f s)) :
    exec i s = finish ((fun w => { s with a := w, pc := s.pc + 1 }) <$> zWordOf s.params v s.a) := by
  obtain ⟨rfl, rfl⟩ | ⟨rfl, rfl⟩ := hi
  · rw [exec_arith (i := .add m f) rfl ho, AU_add, Functor.map_map]
    rfl
  · rw [exec_arith (i := .sub m f) rfl ho, AU_sub, Functor.map_map]
    rfl

/-- Settles O16: by the cases of ZWordOf. -/
theorem addSubResult : Obligations.AddSubResult := by
  intro m f s i v ho hi
  rw [exec_addSub ho hi]
  refine ⟨fun hv => ?_, fun hv hp => ?_, fun hv hp => ?_⟩
  · obtain ⟨w, hw, hval⟩ := zWordOf_isWordOf (p := s.params) s.a hv
    exact ⟨w, by rw [hw]; rfl, hval⟩
  · exact ⟨_, by rw [zWordOf_over s.a hv, hp]; rfl, wordOfMag_isTruncationOf v⟩
  · rw [zWordOf_over s.a hv, hp]; rfl

/-! ## MUL -/

/-- A product of two words has at most 60 bits (40 R102). -/
theorem natAbs_val_mul_val_lt (a m : Word) : (val a * val m).natAbs < 2 ^ 30 * 2 ^ 30 := by
  rw [Int.natAbs_mul, natAbs_val, natAbs_val]
  exact Nat.mul_lt_mul'' (mag_lt a) (mag_lt m)

/-- The two words of a magnitude of at most 60 bits hold all of it. -/
theorem mag_high_low {n : Nat} (hn : n < 2 ^ 30 * 2 ^ 30) (z : Bool) :
    mag (wordOfMag z (n / 2 ^ 30)) * 2 ^ 30 + mag (wordOfMag z (n % 2 ^ 30)) = n := by
  rw [mag_wordOfMag, mag_wordOfMag]
  omega

/-- Settles O17: the unit splits a product of at most 60 bits into its two words. -/
theorem mulResult : Obligations.MulResult := by
  intro m f s ho
  exact ⟨_, _, exec_arith (op := .mul) rfl ho, mag_high_low (natAbs_val_mul_val_lt _ _) _, rfl, rfl⟩

/-! ## DIV -/

/-- The dividend is AX with the sign that DIVIDEND_SIGN selects (40 R103). -/
theorem dividend_eq (s : State) : dividend s.params s.a s.x =
    (if dividendNegative s = true then -1 else 1) * ((mag s.a : Int) * 2 ^ 30 + mag s.x) := by
  rw [ite_mul, neg_one_mul, one_mul]
  rfl

theorem natAbs_dividend (p : Params) (a x : Word) : (dividend p a x).natAbs = mag a * 2 ^ 30 + mag x := by
  have h : ((mag a : Int) * 2 ^ 30 + mag x).natAbs = mag a * 2 ^ 30 + mag x := by omega
  unfold dividend
  dsimp only
  rw [apply_ite Int.natAbs, Int.natAbs_neg, h, ite_self]

/-- The quotient fits exactly where the high half of the dividend is below the divisor's magnitude (40 R103). -/
theorem fits_quotient_iff (p : Params) (a x : Word) {v : Int} (hv : v ≠ 0) :
    Fits ((dividend p a x).tdiv v) ↔ mag a < v.natAbs := by
  have hx := mag_lt x
  rw [Fits, Int.natAbs_tdiv, natAbs_dividend]
  exact (Nat.div_lt_iff_lt_mul (Int.natAbs_pos.2 hv)).trans (by omega)

theorem natAbs_tmod_lt (d : Int) {v : Int} (hv : v ≠ 0) : (d.tmod v).natAbs < v.natAbs := by
  rw [Int.natAbs_tmod]
  exact Nat.mod_lt _ (Int.natAbs_pos.2 hv)

/-- A non-zero remainder of truncated division has the dividend's sign. -/
theorem tmod_neg_iff {d v : Int} (h : d.tmod v ≠ 0) : d.tmod v < 0 ↔ d < 0 := by
  rw [← Int.sign_eq_neg_one_iff_neg, ← Int.sign_eq_neg_one_iff_neg, Int.sign_tmod,
    if_neg (mt Int.tmod_eq_zero_of_dvd h)]

theorem AU_div_zero {p : Params} {a x m : Word} (hv : val m = 0) : AU .div p a x m = .error .divideByZero :=
  if_pos hv

/-- The unit on a divisor that is not 0: the two words of the quotient and the remainder of truncated division, or
the fault of a quotient that does not fit. -/
theorem AU_div {p : Params} {a x m : Word} (hv : val m ≠ 0) :
    AU .div p a x m =
      if 2 ^ 30 ≤ ((dividend p a x).tdiv (val m)).natAbs then .error .quotientOverflow
      else (do
        let q ← zWordOf p ((dividend p a x).tdiv (val m)) a
        let r ← zWordOf p ((dividend p a x).tmod (val m)) x
        .ok (q, r)) := by
  rw [Int.tmod_def]
  exact if_neg hv

theorem AU_div_over {p : Params} {a x m : Word} (hv : val m ≠ 0) (h : (val m).natAbs ≤ mag a) :
    AU .div p a x m = .error .quotientOverflow := by
  have hq := mt (fits_quotient_iff p a x hv).1 (Nat.not_lt.2 h)
  rw [AU_div hv, if_pos (Nat.not_lt.1 hq)]

/-- The unit on a quotient that fits: its word and the remainder's, each zero signed by the policy. -/
theorem AU_div_fits {p : Params} {a x m : Word} (h : mag a < (val m).natAbs) :
    ∃ q r, AU .div p a x m = .ok (q, r) ∧ IsWordOf q ((dividend p a x).tdiv (val m)) (zeroSign p a) ∧
      IsWordOf r ((dividend p a x).tmod (val m)) (zeroSign p x) := by
  have hv : val m ≠ 0 := Int.natAbs_pos.1 (Nat.zero_lt_of_lt h)
  have hqfits := (fits_quotient_iff p a x hv).2 h
  have hrfits : Fits ((dividend p a x).tmod (val m)) :=
    (natAbs_tmod_lt _ hv).trans (natAbs_val m ▸ mag_lt m)
  obtain ⟨q, hq, hqval⟩ := zWordOf_isWordOf (p := p) a hqfits
  obtain ⟨r, hr, hrval⟩ := zWordOf_isWordOf (p := p) x hrfits
  exact ⟨q, r, by rw [AU_div hv, if_neg (Nat.not_le.2 hqfits), hq, hr]; rfl, hqval, hrval⟩

theorem IsWordOf.sign_of_val_eq_zero {w : Word} {v : Int} {z : Bool} (h : IsWordOf w v z) (hw : val w = 0) :
    w.sign = z := by
  rw [h.2, if_pos (h.1 ▸ hw)]

/-- Settles O18: by the cases of the unit; its two words are the quotient and remainder of truncated division. -/
theorem divResult : Obligations.DivResult := by
  rintro m f s d v ho rfl hd
  obtain rfl : d = dividend s.params s.a s.x := hd.trans (dividend_eq s).symm
  obtain ⟨hok, hfault⟩ := arithmeticUnitAgrees (.div m f) .div s rfl ho
  refine ⟨fun hv => hfault _ (AU_div_zero hv), fun hv hle => hfault _ (AU_div_over hv hle), fun hlt => ?_⟩
  obtain ⟨q, r, hqr, hq, hr⟩ := AU_div_fits (p := s.params) (x := s.x) hlt
  refine ⟨q, r, (hok q r hqr).1, ?_, ?_, ?_, hq.sign_of_val_eq_zero, hr.sign_of_val_eq_zero⟩
  all_goals rw [hr.1]
  · rw [hq.1, Int.mul_tdiv_add_tmod]
  · exact natAbs_tmod_lt _ (Int.natAbs_pos.1 (Nat.zero_lt_of_lt hlt))
  · exact tmod_neg_iff

end Sys2Proof.Machine
end

section
/-! SUPPORT. Opcode 5: what HLT answers (41 R120). -/

namespace Sys2Proof.Machine

/-- Settles O27: the meaning of HLT's group reads no operand and is the state with the status alone changed. -/
theorem haltResult : Obligations.HaltResult :=
  fun _ s => exec_next.2 (congrArg Except.ok (halt_eq s))

end Sys2Proof.Machine
end

section
/-! SUPPORT. Loads and address transfers that enter: what they write, and that they read no register but the index
register (20 R61, 42 R130, 46 R262). -/

namespace Sys2Proof.Machine

/-! ## The load -/

/-- Settles O19: with a usable operand a load answers the operand word in its register and the advanced pc. -/
theorem loadResult : Obligations.LoadResult := by
  intro i r s hi ho
  rw [exec_next, hi, groupMeaning, load_ok]
  exact ⟨ho, congrArg (State.setPc _) (by rw [nextPc, State.setReg_pc])⟩

/-! ## A register that is written and not read -/

@[simp] theorem State.setReg_setReg_same (s : State) (r : Reg) (v w : Word) :
    (s.setReg r v).setReg r w = s.setReg r w := by
  cases r <;> rfl

/-- The effective address adds to the address the value of the register that the index field names (20 R61). -/
theorem eaValue_eq_indexRegister (m : AddrField) (s : State) :
    eaValue m s = addrValue m + (indexRegister m).elim 0 fun k => val (s.reg k) := by
  unfold eaValue indexTerm indexRegister
  generalize m.index.toNat = k
  match k with
  | 0 | 1 | 2 | 3 | 4 | 5 | 6 => rfl
  | n + 7 =>
    have hn : ¬(1 ≤ n + 7 ∧ n + 7 ≤ 6) := by omega
    rw [if_neg hn]
    rfl

section

variable {m : AddrField} {r : Reg} (hr : indexRegister m ≠ some r) (f : FieldSpec) (s : State) (w : Word)
include hr

/-- The effective address reads the index register alone. -/
theorem eaValue_setReg : eaValue m (s.setReg r w) = eaValue m s := by
  rw [eaValue_eq_indexRegister, eaValue_eq_indexRegister]
  cases hm : indexRegister m with
  | none => rfl
  | some k =>
    have hk : k ≠ r := fun h => hr (h ▸ hm)
    simp [State.reg_setReg_other s r k w hk]

theorem ea_setReg : ea m (s.setReg r w) = ea m s := by
  rw [ea, ea, eaValue_setReg hr]

theorem operand_setReg : operand m f (s.setReg r w) = operand m f s := by
  simp only [operand, ea_setReg hr, memRead, State.setReg_mem]

theorem load_setReg : load r m f (s.setReg r w) = load r m f s := by
  simp only [load, operand_setReg hr, State.setReg_setReg_same]

theorem enter_setReg : enter r m (s.setReg r w) = enter r m s := by
  simp only [enter, ea_setReg hr, State.setReg_params, State.setReg_setReg_same]

theorem enterNegative_setReg : enterNegative r m (s.setReg r w) = enterNegative r m s := by
  simp only [enterNegative, ea_setReg hr, State.setReg_params, State.setReg_setReg_same]

end

/-- MUL's unit takes no X, and its lower word replaces X (40 R102). -/
theorem arith_mul_setReg_x {m : AddrField} (hr : indexRegister m ≠ some .x) (f : FieldSpec) (s : State) (w : Word) :
    arith (AU .mul) m f (s.setReg .x w) = arith (AU .mul) m f s := by
  simp only [arith, operand_setReg hr]
  rfl

/-- Settles O38: the address does not read the register, and the write replaces what stood in it. -/
theorem oldDestinationUnread : Obligations.OldDestinationUnread := by
  intro i s r w hi hr
  rw [exec_eq_meaning, exec_eq_meaning]
  obtain hg | hg | hg | ⟨hg, rfl⟩ := hi
  all_goals
    rw [hg]
    apply congrArg finish
  · exact load_setReg hr _ s w
  · exact enter_setReg hr s w
  · exact enterNegative_setReg hr s w
  · exact arith_mul_setReg_x hr _ s w

end Sys2Proof.Machine
end

section
/-! SUPPORT. Stores complete with the merged word at the effective address, and the word that STJ stores: J is written
by taken linking jumps alone, with the address after the jump (43 R150 to R160, 44 R170). -/

namespace Sys2Proof.Machine

/-! ## J -/

/-- J is a destination of the linking jumps and of no other instruction: no load and no address transfer names it. -/
theorem contains_j_dests (i : Instr) : i.group.dests.contains .j = i.group.links := by
  cases i <;> rfl

/-- A completed linking jump leaves J, or has saved next_pc in it. -/
theorem Effect.j_cases_of_links {m : AddrField} {s t : State} {g : Group} (h : Effect m s g t)
    (hg : g.links = true) : t.j = s.j ∨ wordOf s.params.arithOverflow (nextPc s) = .ok t.j := by
  cases h with
  | link j _ _ hj => exact .inr hj
  | notTaken => exact .inl rfl
  | _ => cases hg

/-- A completed instruction leaves J, or has saved next_pc in it. -/
theorem j_cases_of_exec {i : Instr} {s t : State} (h : exec i s = .next t) :
    t.j = s.j ∨ wordOf s.params.arithOverflow (nextPc s) = .ok t.j := by
  cases hl : i.group.links with
  | true => exact (exec_effect h).j_cases_of_links hl
  | false =>
    have hj : Reg.j ∉ i.group.dests := by
      rw [← List.contains_iff_mem, contains_j_dests, hl]
      exact Bool.false_ne_true
    exact .inl ((exec_effect h).reg_eq hj)

/-- What WordOf makes of the address after an instruction in memory is non-negative and at most 4000. -/
theorem wordOf_nextPc_inRange {s : State} {o : ArithOverflow} {w : Word} (hm : inMemory s.pc = true)
    (h : wordOf o (nextPc s) = .ok w) : w.sign = false ∧ mag w ≤ 4000 := by
  obtain ⟨h0, h1⟩ := inMemory_iff.1 hm
  unfold nextPc at h
  rw [wordOf_fits (by omega)] at h
  cases h
  refine ⟨decide_eq_false (by omega), ?_⟩
  rw [mag_wordOfMag]
  omega

/-- Settles O42: a completed instruction stood inside memory, and leaves J or saves the address after its own in it. -/
theorem stepKeepsLinkInRange : Obligations.StepKeepsLinkInRange := by
  intro s t hs h
  obtain ⟨-, rfl⟩ | ⟨-, hm, hx⟩ := step_next_cases h
  · exact hs
  · obtain hj | hj := j_cases_of_exec hx
    · unfold LinkInRange
      rw [hj]
      exact hs
    · exact wordOf_nextPc_inRange hm hj

/-! ## The store -/

/-- Settles O20: the merged word is read back; the other addresses and the registers stay by the frames of a store. -/
theorem storeResult : Obligations.StoreResult := by
  intro i src s hi ho
  have hx := (exec_store hi).2 ⟨ho, rfl⟩
  have hstore : i.group.isStore = true := by rw [hi]; rfl
  have hdests (r : Reg) : r ∉ i.group.dests := by rw [hi]; exact List.not_mem_nil
  exact ⟨_, hx, Memory.read_write_same _ _ _, fun b => (memoryFrame i s _ b hx).2 hstore,
    fun r => registerFrame i s _ r hx (hdests r), rfl, rfl, rfl, rfl⟩

end Sys2Proof.Machine
end

section
/-! SUPPORT. The jumps: what a taken and an untaken jump answer, for every jump that saves J at once, and the verdict of
the jump decoder unit as a description of the instruction's group (44 R170 to R178, 45 R200). -/

namespace Sys2Proof.Machine

/-! ## Jumps that save J -/

/-- The address after an instruction in memory fits a word, so WordOf gives the word of it (44 R170). -/
theorem wordOf_nextPc {s : State} (hm : inMemory s.pc = true) (o : ArithOverflow) :
    ∃ j, wordOf o (nextPc s) = .ok j ∧ IsWordOf j (s.pc + 1) false := by
  obtain ⟨h0, h1⟩ := inMemory_iff.1 hm
  have hfits : Fits (nextPc s) := by unfold Fits nextPc; omega
  exact (wordOfNumber (nextPc s)).1 hfits o

/-- The meaning of a group that saves J is the one linking jump, on whether the state takes it. -/
theorem groupMeaning_of_links {g : Group} (hg : g.links = true) (m : AddrField) (f : FieldSpec) (s : State) :
    ∃ b, (b = true ↔ Taken g s) ∧ groupMeaning g m f s = linkingJump b m s := by
  cases g with
  | jump => exact ⟨true, iff_of_true rfl trivial, rfl⟩
  | jumpCI p => exact ⟨_, p.ciBool_iff s.ci, rfl⟩
  | jumpReg r p => exact ⟨_, p.valBool_iff _, rfl⟩
  | _ => cases hg

section

variable {i : Instr} {s : State} (hg : i.group.links = true) (hi : indexOK i.addrField = true)
include hg hi

/-- A taken jump inside memory saves the address after it in J and goes to its effective address. -/
theorem exec_links_taken (ht : Taken i.group s) (hm : inMemory s.pc = true) :
    ∃ j, exec i s = .next { s with j := j, pc := eaValue i.addrField s } ∧ IsWordOf j (s.pc + 1) false := by
  obtain ⟨b, hb, hmean⟩ := groupMeaning_of_links hg i.addrField i.modifier s
  obtain ⟨j, hj, hval⟩ := wordOf_nextPc hm s.params.arithOverflow
  refine ⟨j, exec_next.2 ?_, hval⟩
  rw [hmean, linkingJump_ok]
  exact ⟨hi, .inl ⟨hb.2 ht, j, hj, rfl⟩⟩

/-- An untaken jump falls through. -/
theorem exec_links_notTaken (ht : ¬Taken i.group s) : exec i s = .next { s with pc := s.pc + 1 } := by
  obtain ⟨b, hb, hmean⟩ := groupMeaning_of_links hg i.addrField i.modifier s
  rw [exec_next, hmean, linkingJump_ok]
  exact ⟨hi, .inr ⟨Bool.eq_false_iff.2 (mt hb.1 ht), rfl⟩⟩

end

/-! ## The jumps of opcode 39 -/

/-- JSJ goes to its effective address and changes nothing else (44 R172). -/
theorem exec_jumpNoSave {i : Instr} {s : State} (hg : i.group = .jumpNoSave) (hi : indexOK i.addrField = true) :
    exec i s = .next { s with pc := eaValue i.addrField s } := by
  rw [exec_next, hg, groupMeaning, plainJump_ok]
  exact ⟨hi, rfl⟩

/-- Settles O21: JMP is a jump that saves J and is always taken. -/
theorem unconditionalJumps : Obligations.UnconditionalJumps :=
  fun m _ hi => ⟨exec_links_taken (i := .jmp m) rfl hi trivial, exec_jumpNoSave (i := .jsj m) rfl hi⟩

/-- Settles O22: the jumps on CI save J, and are taken where CI passes the test. -/
theorem conditionalJumps : Obligations.ConditionalJumps := by
  intro i p s hg hi
  have hlinks : i.group.links = true := by rw [hg]; rfl
  have htaken : Taken i.group s = p.holdsCI s.ci := by rw [hg]; rfl
  rw [← htaken]
  exact ⟨exec_links_taken hlinks hi, exec_links_notTaken hlinks hi⟩

/-! ## The jump decoder unit -/

theorem signZero_neg {v : Int} : signZero v = .neg ↔ v < 0 := by
  unfold signZero; split_ifs <;> simp <;> omega

theorem signZero_zero {v : Int} : signZero v = .zero ↔ v = 0 := by
  unfold signZero; split_ifs <;> simp <;> omega

theorem signZero_pos {v : Int} : signZero v = .pos ↔ 0 < v := by
  unfold signZero; split_ifs <;> simp <;> omega

/-- The verdict describes what the state `s` does with an instruction of the group. -/
inductive JumpVerdict.Describes (s : State) : JumpVerdict → Group → Prop where
  | noOp : Describes s .noOp .noOp
  | jumpNoSave : Describes s ⟨.jump, true, false⟩ .jumpNoSave
  | links {g : Group} {b : Bool} (hg : g.links = true) (hb : b = true ↔ Taken g s) : Describes s ⟨.jump, b, true⟩ g

/-- The table of 44 R170 describes the jumps of opcode 39, row by row. -/
theorem jd39_describes (f : FieldSpec) (s : State) : (jd39 f s.ci).Describes s (jumpGroup f.toNat) := by
  unfold jd39 jumpGroup
  generalize f.toNat = n
  match n with
  | 0 => exact .links rfl (iff_of_true rfl trivial)
  | 1 => exact .jumpNoSave
  | 4 | 5 | 6 => exact .links rfl decide_eq_true_iff
  | 7 | 8 | 9 => exact .links rfl (by cases h : s.ci <;> simp [Taken, Rel.holdsCI, h])
  | 2 | 3 | n + 10 => exact .noOp

/-- The rows 0 to 5 of the table of 45 R200 describe the register jumps, given the sign of the register's value. -/
theorem jdReg_describes {f : FieldSpec} (hf : f.toNat ≤ 5) (r : Reg) (s : State) :
    (jdReg f (signZero (val (s.reg r)))).Describes s (.jumpReg r (relOfRegMode f.toNat)) := by
  unfold jdReg
  generalize f.toNat = n at hf ⊢
  interval_cases n
  all_goals
    refine .links rfl (decide_eq_true_iff.trans ?_)
    simp only [signZero_neg, signZero_zero, signZero_pos, Taken, relOfRegMode, Rel.holds] <;> omega

/-- The other rows are no-op words, whatever the sign. -/
theorem jdReg_eq_noOp {f : FieldSpec} (hf : 6 ≤ f.toNat) (v : SignZero) : jdReg f v = .noOp := by
  unfold jdReg
  split
  case h_7 => rfl
  all_goals omega

theorem classify_of_opcode_39 {w : Word} (hc : w.opcode.toNat = 39) : classify w = jumpGroup w.modifier.toNat := by
  simp [classify, hc]

theorem classify_of_jumpReg {w : Word} (hc : 40 ≤ w.opcode.toNat ∧ w.opcode.toNat ≤ 47) (hf : w.modifier.toNat ≤ 5) :
    classify w = .jumpReg (regOf (w.opcode.toNat - 40)) (relOfRegMode w.modifier.toNat) := by
  unfold classify
  dsimp only
  repeat rw [if_neg (by omega)]
  exact if_pos ⟨hc.1, hc.2, hf⟩

/-- The unit's verdict, given the sign of the tested register's value, describes the group of the word. -/
theorem JD_describes {w : Word} {s : State} {v : SignZero} {d : JumpVerdict}
    (hd : JD w.opcode w.modifier s.ci v = some d)
    (hv : ∀ r, (classify w).testedReg = some r → v = signZero (val (s.reg r))) : d.Describes s (classify w) := by
  unfold JD at hd
  split_ifs at hd with h39 hc
  all_goals cases hd
  · rw [classify_of_opcode_39 h39]
    exact jd39_describes _ s
  · by_cases hf : w.modifier.toNat ≤ 5
    · rw [classify_of_jumpReg hc hf] at hv ⊢
      rw [hv _ rfl]
      exact jdReg_describes hf _ s
    · have hnoOp : classify w = .noOp := (classify_eq_noOp_iff w).2 (by unfold NoOpNumbers; omega)
      rw [jdReg_eq_noOp (by omega), hnoOp]
      exact .noOp

namespace JumpVerdict.Describes

variable {s : State} {d : JumpVerdict} {g : Group} (h : d.Describes s g)
include h

theorem kind_eq_nop_iff : d.kind = .nop ↔ g = .noOp := by
  cases h with
  | noOp => exact iff_of_true rfl rfl
  | jumpNoSave => exact iff_of_false nofun nofun
  | links hg => exact iff_of_false nofun (by rintro rfl; cases hg)

theorem exec_taken {i : Instr} (hi : i.group = g) (hx : indexOK i.addrField = true) (hm : inMemory s.pc = true)
    (ht : d.taken = true) : ∃ t, exec i s = .next t ∧ t.pc = eaValue i.addrField s ∧
      (d.link = true → IsWordOf t.j (s.pc + 1) false) ∧ (d.link = false → t.j = s.j) := by
  cases h with
  | noOp => cases ht
  | jumpNoSave => exact ⟨_, exec_jumpNoSave hi hx, rfl, nofun, fun _ => rfl⟩
  | links hg hb =>
    subst hi
    obtain ⟨j, hj, hval⟩ := exec_links_taken hg hx (hb.1 ht) hm
    exact ⟨_, hj, rfl, fun _ => hval, nofun⟩

theorem exec_notTaken {i : Instr} (hi : i.group = g) (hx : indexOK i.addrField = true) (ht : d.taken = false) :
    exec i s = .next { s with pc := s.pc + 1 } := by
  cases h with
  | noOp => exact exec_noOp hi s
  | jumpNoSave => cases ht
  | links hg hb =>
    subst hi
    exact exec_links_notTaken hg hx (mt hb.2 (Bool.eq_false_iff.1 ht))

end JumpVerdict.Describes

/-- Settles O54: the verdict describes the group that the word decodes to, and exec follows the group. -/
theorem jumpDecoderAgrees : Obligations.JumpDecoderAgrees := by
  intro w s v d hd hm hi hv
  rw [group_decode] at hv ⊢
  rw [← addrField_decode] at hi ⊢
  have h := JD_describes hd hv
  exact ⟨h.kind_eq_nop_iff, h.exec_taken (group_decode w) hi hm, h.exec_notTaken (group_decode w) hi⟩

end Sys2Proof.Machine
end

section
/-! SUPPORT. The register jumps: the jumps that save J, on the signed value of the tested register (45 R200 to R249). -/

namespace Sys2Proof.Machine

/-- Settles O23: the register jumps save J, and are taken where the register's value meets the predicate. -/
theorem registerJumps : Obligations.RegisterJumps := by
  intro i r p s hg hi
  have hlinks : i.group.links = true := by rw [hg]; rfl
  have htaken : Taken i.group s = p.holds (val (s.reg r)) := by rw [hg]; rfl
  rw [← htaken]
  exact ⟨exec_links_taken hlinks hi, exec_links_notTaken hlinks hi⟩

end Sys2Proof.Machine
end

section
/-! SUPPORT. The address transfers: the register receives the word that ZWordOf or the entering rule makes of the number
(46 R260 to R295). -/

namespace Sys2Proof.Machine

/-! ## The register and the pc -/

/-- Advancing after a register write, the pc counted from the state before it. -/
theorem advance_setReg (s : State) (r : Reg) (w : Word) : advance (s.setReg r w) = (s.setReg r w).setPc (s.pc + 1) := by
  rw [advance, nextPc, State.setReg_pc]

/-- A conversion followed by the write of its word and the advance, as every address transfer ends. -/
theorem bind_advance_setReg (s : State) (r : Reg) (c : Except Fault Word) :
    (c >>= fun w => .ok (advance (s.setReg r w))) = (fun w => (s.setReg r w).setPc (s.pc + 1)) <$> c := by
  simp only [advance_setReg]
  cases c <;> rfl

/-- An instruction that finishes with a conversion's answer completes with the word that the conversion gives. -/
theorem finish_map_ok {g : Word → State} {c : Except Fault Word} {w : Word} (h : c = .ok w) :
    finish (g <$> c) = .next (g w) := by
  rw [h]
  rfl

/-- An instruction that finishes with a conversion's answer faults where the conversion does. -/
theorem finish_map_error {g : Word → State} {c : Except Fault Word} {k : Fault} (h : c = .error k) :
    finish (g <$> c) = .fault k := by
  rw [h]
  rfl

/-! ## INC and DEC -/

/-- With an index field of 0..6, INC and DEC finish with ZWordOf of the sum or the difference in their register. -/
theorem exec_incDec {i : Instr} {r : Reg} {s : State} {v : Int} (hm : indexOK i.addrField = true)
    (hi : i.group = .transfer r .inc ∧ v = val (s.reg r) + eaValue i.addrField s ∨
      i.group = .transfer r .dec ∧ v = val (s.reg r) - eaValue i.addrField s) :
    exec i s = finish ((fun w => (s.setReg r w).setPc (s.pc + 1)) <$> zWordOf s.params v (s.reg r)) := by
  have hea : ea i.addrField s = .ok (eaValue i.addrField s) := ea_ok.2 ⟨hm, rfl⟩
  rw [exec_eq_meaning, ← bind_advance_setReg]
  obtain ⟨hg, rfl⟩ | ⟨hg, rfl⟩ := hi
  · rw [hg, groupMeaning, increase, hea, ok_bind]
  · rw [hg, groupMeaning, decrease, hea, ok_bind]

/-- Settles O24: by the cases of ZWordOf. -/
theorem incDecResult : Obligations.IncDecResult := by
  intro i r s v hm hi
  rw [exec_incDec hm hi]
  refine ⟨fun hv => ?_, fun hv hp => ?_, fun hv hp => ?_⟩
  · obtain ⟨w, hw, hval⟩ := zWordOf_isWordOf (p := s.params) (s.reg r) hv
    exact ⟨w, finish_map_ok hw, hval⟩
  · exact ⟨_, finish_map_ok (by rw [zWordOf_over _ hv, hp, if_neg nofun]), wordOfMag_isTruncationOf v⟩
  · exact finish_map_error (by rw [zWordOf_over _ hv, hp, if_pos rfl])

/-! ## ENT and ENN -/

/-- The sign of an instruction's word is its address operand's sign bit (30 R82). -/
theorem sign_encode (i : Instr) : (encode i).sign = i.addrField.neg := by
  rw [encode_eq_instrOf]
  rfl

theorem enterWord_zero (o : ArithOverflow) (z : Bool) : enterWord o 0 z = .ok (Word.zero z) := if_pos rfl

theorem enterWord_of_ne_zero {v : Int} (hv : v ≠ 0) (o : ArithOverflow) (z : Bool) : enterWord o v z = wordOf o v :=
  if_neg hv

/-- With an index field of 0..6, ENT and ENN finish with the entered word in their register. -/
theorem exec_enter {i : Instr} {r : Reg} {s : State} {v : Int} {z : Bool} (hm : indexOK i.addrField = true)
    (hi : i.group = .transfer r .ent ∧ v = eaValue i.addrField s ∧ z = (encode i).sign ∨
      i.group = .transfer r .enn ∧ v = -eaValue i.addrField s ∧ z = !(encode i).sign) :
    exec i s = finish ((fun w => (s.setReg r w).setPc (s.pc + 1)) <$> enterWord s.params.arithOverflow v z) := by
  have hea : ea i.addrField s = .ok (eaValue i.addrField s) := ea_ok.2 ⟨hm, rfl⟩
  rw [exec_eq_meaning, ← bind_advance_setReg]
  obtain ⟨hg, rfl, rfl⟩ | ⟨hg, rfl, rfl⟩ := hi
  · rw [hg, groupMeaning, enter, hea, ok_bind, sign_encode]
  · rw [hg, groupMeaning, enterNegative, hea, ok_bind, sign_encode]

/-- An address transfer whose index field is 7..63 faults with it (20 R61). -/
theorem exec_transfer_badIndex {i : Instr} {r : Reg} {op : TransferOp} {s : State} (hg : i.group = .transfer r op)
    (hm : indexOK i.addrField = false) : exec i s = .fault (.indexInvalid i.addrField.index) := by
  have hea : ea i.addrField s = .error (.indexInvalid i.addrField.index) := ea_error.2 ⟨ne_true_of_eq_false hm, rfl⟩
  rw [exec_fault, hg]
  cases op <;> exact bind_error.2 (.inl hea)

/-- Settles O25: by the index field, the zero and the cases of WordOf. -/
theorem enterResult : Obligations.EnterResult := by
  intro i r s v z hi
  have hne (h : ¬Fits v) : v ≠ 0 := by rintro rfl; exact h (Nat.two_pow_pos 30)
  obtain ⟨hfits, hover⟩ := wordOfNumber v
  refine ⟨fun hm => ?_, fun hm hv => ?_, fun hm hv hfit => ?_, fun hm hfit hp => ?_, fun hm hfit hp => ?_⟩
  · obtain ⟨hg, -⟩ | ⟨hg, -⟩ := hi
    · exact exec_transfer_badIndex hg hm
    · exact exec_transfer_badIndex hg hm
  all_goals rw [exec_enter hm hi]
  · exact finish_map_ok (hv ▸ enterWord_zero _ z)
  · obtain ⟨w, hw, hval⟩ := hfits hfit s.params.arithOverflow
    exact ⟨w, finish_map_ok ((enterWord_of_ne_zero hv _ z).trans hw), hval⟩
  · obtain ⟨⟨w, hw, htrunc⟩, -⟩ := hover hfit
    rw [enterWord_of_ne_zero (hne hfit), hp]
    exact ⟨w, finish_map_ok hw, htrunc⟩
  · obtain ⟨-, hfault⟩ := hover hfit
    rw [enterWord_of_ne_zero (hne hfit), hp]
    exact finish_map_error hfault

end Sys2Proof.Machine
end

section
/-! SUPPORT. The compares: CI tells how the two fields compare (47 R300 to R308). -/

namespace Sys2Proof.Machine

/-- The field 0:0 is a zero with the word's sign (20 R57). -/
theorem field_zero (w : Word) : field w 0 = Word.zero w.sign := rfl

/-- Settles O26: CI is the comparison of the two fields' values, which are both 0 for the field 0:0. -/
theorem compareResult : Obligations.CompareResult := by
  intro i r s hg ho
  have hx : exec i s = .next { s with
      ci := compareCI (val (field (s.reg r) i.modifier)) (val (operandWord i.addrField i.modifier s)),
      pc := s.pc + 1 } := by
    rw [exec_next, hg]
    exact compare_ok.2 ⟨ho, rfl⟩
  refine ⟨_, hx, compareCI_less, compareCI_equal, compareCI_greater, fun hf => compareCI_equal.2 ?_⟩
  rw [operandWord, hf, field_zero, field_zero, val_zero, val_zero]

end Sys2Proof.Machine
end

section
/-! SUPPORT. Faults: the order of the checks, and the cause of every fault, said once for all instructions; what the
absence of a cause means (60 R342 to R344, 70 R379). -/

namespace Sys2Proof.Machine

/-! ## The checks come first -/

/-- Every group that computes EA does so before anything else, and faults with it (60 R343). -/
theorem groupMeaning_error_of_ea {g : Group} {m : AddrField} {s : State} {k : Fault} (f : FieldSpec)
    (hg : g.computesEA = true) (h : ea m s = .error k) : groupMeaning g m f s = .error k := by
  have hoperand : operand m f s = .error k := bind_error.2 (.inl h)
  cases g with
  | arith op => exact arith_error.2 (.inl hoperand)
  | load r | cmp r => exact bind_error.2 (.inl hoperand)
  | store src => exact store_error.2 hoperand
  | jump | jumpNoSave | jumpCI p | jumpReg r p => exact bind_error.2 (.inl h)
  | transfer r op => cases op <;> exact bind_error.2 (.inl h)
  | halt | noOp => cases hg

/-- Every group that reads F as a field specification fetches its operand before anything else, and faults with it. -/
theorem groupMeaning_error_of_operand {g : Group} {m : AddrField} {f : FieldSpec} {s : State} {k : Fault}
    (hg : g.checksField = true) (h : operand m f s = .error k) : groupMeaning g m f s = .error k := by
  cases g with
  | arith op => exact arith_error.2 (.inl h)
  | load r | cmp r => exact bind_error.2 (.inl h)
  | store src => exact store_error.2 h
  | _ => cases hg

/-- Settles O29: EA comes before everything else, and the operand fetch makes its checks in order. -/
theorem faultOrder : Obligations.FaultOrder := by
  intro i s
  refine ⟨fun hg hi => ?_, fun hg hi hf => ?_, fun hg hi hf hm => ?_⟩
  all_goals rw [exec_fault]
  · exact groupMeaning_error_of_ea _ hg (ea_error.2 ⟨ne_true_of_eq_false hi, rfl⟩)
  · exact groupMeaning_error_of_operand hg (operand_error.2 (.inr (.inl ⟨hi, ne_true_of_eq_false hf, rfl⟩)))
  · exact groupMeaning_error_of_operand hg (operand_error.2 (.inr (.inr ⟨hi, hf, ne_true_of_eq_false hm, rfl⟩)))

/-! ## The cause of a fault -/

/-- The cause of a fault that an instruction raises at a pc inside memory (60 R342). -/
inductive FaultCause (i : Instr) (s : State) : Fault → Prop where
  | index (hg : i.group.computesEA = true) (hi : ¬indexOK i.addrField) :
      FaultCause i s (.indexInvalid i.addrField.index)
  | fieldSpec (hg : i.group.checksField = true) (hf : ¬fieldOK i.modifier) :
      FaultCause i s (.fieldSpecInvalid i.modifier)
  | address (hg : i.group.checksField = true) (hm : ¬inMemory (eaValue i.addrField s)) :
      FaultCause i s (.memoryOutOfRange (eaValue i.addrField s))
  | zeroDivisor (hg : i.group = .arith .div) (hv : val (operandWord i.addrField i.modifier s) = 0) :
      FaultCause i s .divideByZero
  | quotient (hg : i.group = .arith .div) (hq : (val (operandWord i.addrField i.modifier s)).natAbs ≤ mag s.a) :
      FaultCause i s .quotientOverflow
  | overflow {v : Int} (hv : convertedValue i s = some v) (hfit : ¬Fits v) (hp : s.params.arithOverflow = .fault) :
      FaultCause i s .arithmeticOverflow

/-- A computation that only wraps its first part's answer faults where that part does. -/
theorem bind_map_error {α β : Type} {c : Except Fault α} {g : α → β} {k : Fault} :
    (c >>= fun a => .ok (g a)) = .error k ↔ c = .error k := by
  simp [bind_error]

theorem Group.computesEA_of_checksField {g : Group} (h : g.checksField = true) : g.computesEA = true := by
  cases g with
  | arith _ | load _ | store _ | cmp _ => rfl
  | _ => cases h

theorem Group.computesEA_of_links {g : Group} (h : g.links = true) : g.computesEA = true := by
  cases g with
  | jump | jumpCI _ | jumpReg _ _ => rfl
  | _ => cases h

namespace FaultCause

variable {i : Instr} {s : State} {k : Fault}

theorem of_ea (hg : i.group.computesEA = true) (h : ea i.addrField s = .error k) : FaultCause i s k := by
  obtain ⟨hi, rfl⟩ := ea_error.1 h
  exact .index hg hi

theorem of_operand (hg : i.group.checksField = true) (h : operand i.addrField i.modifier s = .error k) :
    FaultCause i s k := by
  obtain ⟨hi, rfl⟩ | ⟨-, hf, rfl⟩ | ⟨-, -, hm, rfl⟩ := operand_error.1 h
  · exact .index (Group.computesEA_of_checksField hg) hi
  · exact .fieldSpec hg hf
  · exact .address hg hm

/-- The arithmetic unit's faults: ADD and SUB overflow, MUL has none, DIV has a zero divisor or too large a quotient. -/
theorem of_AU {op : AuOp} (hg : i.group = .arith op)
    (h : AU op s.params s.a s.x (operandWord i.addrField i.modifier s) = .error k) : FaultCause i s k := by
  cases op with
  | add | sub =>
    obtain ⟨hfit, hp, rfl⟩ := zWordOf_error.1 (bind_map_error.1 h)
    exact .overflow (by rw [convertedValue, hg]) hfit hp
  | mul => cases h
  | div =>
    by_cases hv : val (operandWord i.addrField i.modifier s) = 0
    · cases (AU_div_zero hv).symm.trans h
      exact .zeroDivisor hg hv
    · by_cases hlt : mag s.a < (val (operandWord i.addrField i.modifier s)).natAbs
      · obtain ⟨q, r, hqr, -⟩ := AU_div_fits (p := s.params) (x := s.x) hlt
        cases hqr.symm.trans h
      · cases (AU_div_over hv (Nat.not_lt.1 hlt)).symm.trans h
        exact .quotient hg (Nat.not_lt.1 hlt)

/-- An address transfer faults on its index field, or on converting its number. -/
theorem of_transfer {r : Reg} {op : TransferOp} (hg : i.group = .transfer r op)
    (h : groupMeaning (.transfer r op) i.addrField i.modifier s = .error k) : FaultCause i s k := by
  by_cases hi : indexOK i.addrField
  · have hea : ea i.addrField s = .ok (eaValue i.addrField s) := ea_ok.2 ⟨hi, rfl⟩
    cases op
    case inc | dec =>
      simp only [groupMeaning, increase, decrease, hea, ok_bind, bind_map_error, zWordOf_error] at h
      obtain ⟨hfit, hp, rfl⟩ := h
      exact .overflow (by rw [convertedValue, hg]) hfit hp
    case ent | enn =>
      simp only [groupMeaning, enter, enterNegative, hea, ok_bind, bind_map_error, enterWord_error] at h
      obtain ⟨hfit, hp, rfl⟩ := h
      exact .overflow (by rw [convertedValue, hg]) hfit hp
  · have hea : ea i.addrField s = .error (.indexInvalid i.addrField.index) := ea_error.2 ⟨hi, rfl⟩
    cases h.symm.trans (groupMeaning_error_of_ea i.modifier rfl hea)
    exact .index (by rw [hg]; rfl) hi

/-- A jump that saves J faults on its index field alone: the address after it fits a word. -/
theorem of_links (hg : i.group.links = true) (hm : inMemory s.pc = true)
    (h : exec i s = .fault k) : FaultCause i s k := by
  obtain ⟨b, -, hb⟩ := groupMeaning_of_links hg i.addrField i.modifier s
  rw [exec_fault, hb] at h
  obtain ⟨hi, rfl⟩ | ⟨-, -, hw⟩ := linkingJump_error.1 h
  · exact .index (Group.computesEA_of_links hg) hi
  · obtain ⟨j, hj, -⟩ := wordOf_nextPc hm s.params.arithOverflow
    cases hj.symm.trans hw

/-- Every fault at a pc inside memory has its cause, by the lemma about the group's shared operation. -/
theorem of_exec (hm : inMemory s.pc = true) (h : exec i s = .fault k) : FaultCause i s k := by
  have hx := exec_fault.1 h
  generalize hg : i.group = g at hx
  cases g with
  | arith op =>
    obtain ho | ⟨-, hu⟩ := arith_error.1 hx
    · exact of_operand (by rw [hg]; rfl) ho
    · exact of_AU hg hu
  | load r | cmp r => exact of_operand (by rw [hg]; rfl) (bind_map_error.1 hx)
  | store src => exact of_operand (by rw [hg]; rfl) (store_error.1 hx)
  | jump | jumpCI p | jumpReg r p => exact of_links (by rw [hg]; rfl) hm h
  | jumpNoSave => exact of_ea (by rw [hg]; rfl) (bind_map_error.1 hx)
  | transfer r op => exact of_transfer hg hx
  | halt | noOp => cases hx

end FaultCause

/-! ## What the causes say -/

/-- The instructions that convert a number under ARITH_OVERFLOW are ADD, SUB and the address transfers (60 R342). -/
theorem group_of_convertedValue {i : Instr} {s : State} {v : Int} (h : convertedValue i s = some v) :
    i.group = .arith .add ∨ i.group = .arith .sub ∨ ∃ r op, i.group = .transfer r op := by
  unfold convertedValue at h
  split at h
  case h_1 hg => exact .inl hg
  case h_2 hg => exact .inr (.inl hg)
  case h_3 hg | h_4 hg | h_5 hg | h_6 hg => exact .inr (.inr ⟨_, _, hg⟩)
  all_goals cases h

/-- Settles O30: each cause names the group that may raise its kind and the values it records. -/
theorem faultsOnlyFromTheirRaisers : Obligations.FaultsOnlyFromTheirRaisers := by
  intro i s k hm h
  cases FaultCause.of_exec hm h with
  | index hg hi =>
    refine ⟨hg, ?_, nofun, nofun⟩
    rintro _ ⟨⟩
    exact ⟨rfl, Nat.not_le.1 (mt indexOK_iff.2 hi)⟩
  | fieldSpec hg hf =>
    refine ⟨hg, nofun, ?_, nofun⟩
    rintro _ ⟨⟩
    exact ⟨rfl, eq_false_of_ne_true hf⟩
  | address hg ha =>
    refine ⟨hg, nofun, nofun, ?_⟩
    rintro _ ⟨⟩
    exact ⟨rfl, eq_false_of_ne_true ha⟩
  | zeroDivisor hg | quotient hg => exact ⟨hg, nofun, nofun, nofun⟩
  | overflow hv hfit hp => exact ⟨⟨hp, group_of_convertedValue hv⟩, nofun, nofun, nofun⟩

/-- In a defined case no fault has a cause (70 R379). -/
theorem DefinedCase.not_faultCause {i : Instr} {s : State} {k : Fault} (h : DefinedCase i s) : ¬FaultCause i s k := by
  obtain ⟨hindex, hoperand, hdiv, hfits⟩ := h
  intro hk
  cases hk with
  | index hg hi => exact hi (hindex hg)
  | fieldSpec hg hf => exact hf (hoperand hg).1
  | address hg hm => exact hm (hoperand hg).2
  | zeroDivisor hg hv =>
    have hlt := hdiv hg
    rw [hv] at hlt
    exact Nat.not_lt_zero _ hlt
  | quotient hg hq => exact Nat.not_lt.2 hq (hdiv hg)
  | overflow hv hfit hp => exact hfit (hfits hp _ hv)

/-- Settles O32: no instruction is refused, and a fault would have a cause. -/
theorem definedCasesComplete : Obligations.DefinedCasesComplete := by
  intro i s hm hdef
  cases hx : exec i s with
  | next t => exact ⟨t, rfl⟩
  | fault k => exact absurd (FaultCause.of_exec hm hx) hdef.not_faultCause
  | refused q => exact absurd hx (exec_ne_refused i s q)

end Sys2Proof.Machine
end

section
/-! SUPPORT. The pc after an instruction, and one step: the fetch and the instruction it finds (70 R370 to R376). -/

namespace Sys2Proof.Machine

/-! ## next_pc -/

namespace Effect

variable {m : AddrField} {s t : State} {g : Group} (h : Effect m s g t)
include h

theorem pc_of_notTaken (hg : g ≠ .halt) (ht : ¬Taken g s) : t.pc = s.pc + 1 := by
  cases h with
  | halted => exact absurd rfl hg
  | jumpNoSave => exact absurd trivial ht
  | link j _ htaken => exact absurd htaken ht
  | _ => simp [nextPc]

theorem pc_of_taken (ht : Taken g s) : t.pc = eaValue m s := by
  cases h with
  | jumpNoSave | link => rfl
  | notTaken _ hnot => exact absurd ht hnot
  | _ => cases ht

/-- A taken jump that saves J has saved next_pc in it. -/
theorem j_of_taken (ht : Taken g s) (hg : g.links = true) : wordOf s.params.arithOverflow (nextPc s) = .ok t.j := by
  cases h with
  | link j _ _ hj => exact hj
  | notTaken _ hnot => exact absurd ht hnot
  | _ => cases hg

end Effect

/-- Settles O37: by the effect of the group; the saved word has the value of next_pc, which fits. -/
theorem nextPcResult : Obligations.NextPc := by
  intro i s t h
  have he := exec_effect h
  refine ⟨fun hg => by rw [he.eq_halt hg]; rfl, he.pc_of_notTaken, he.pc_of_taken, fun ht hg hm => ?_⟩
  obtain ⟨j, hj, hval, -⟩ := wordOf_nextPc hm s.params.arithOverflow
  cases hj.symm.trans (he.j_of_taken ht hg)
  exact hval

/-! ## The fetch -/

/-- A running machine whose pc is outside memory faults at the fetch (70 R375). -/
theorem step_of_not_inMemory {s : State} (hs : s.status = .running) (hm : ¬inMemory s.pc) :
    step s = .fault (.fetchOutOfRange s.pc) := by
  simp only [step, hs, fetch_error hm]

/-- Settles O46: such a pc is no address of memory. -/
theorem fetchOutsideFaults : Obligations.FetchOutsideFaults := by
  intro s hs hpc
  refine step_of_not_inMemory hs fun hm => ?_
  have := inMemory_iff.1 hm
  omega

/-- Settles O49: the jump completes without looking at its target, which is then the pc of the next fetch. -/
theorem jumpOutsideFaultsAtNextFetch : Obligations.JumpOutsideFaultsAtNextFetch := by
  intro i s hs hm hg ht hi hout
  obtain ⟨j, hx, hval, -⟩ := exec_links_taken hg hi ht hm
  exact ⟨_, hx, hval, rfl, step_of_not_inMemory hs (ne_true_of_eq_false hout)⟩

/-! ## The instruction at the pc -/

theorem decodeIn_default (w : Word) : decodeIn .default w = decode w := by
  rw [decodeIn, OpcodeMap.standard_default]

/-- Settles O45: the step executes the instruction at the pc, which the default map decodes as `decode` does. -/
theorem stepRunsDecoded : Obligations.StepRunsDecoded := by
  intro s i hs hm
  rw [step_of_running hs hm, instrAtPc]
  refine ⟨fun hmap hi => ?_, fun hi => by rw [hi]⟩
  rw [hmap, decodeIn_default, hi]

/-! ## The host's placed word -/

/-- The opcode table decodes numerals below 2^31 alone, as the words they pack. -/
theorem decode_unpack_of_decodeTableWord {nbits w : Nat} {i : Instr} (h : decodeTableWord nbits w = some i) :
    decode (Word.unpack (w % 2 ^ nbits)) = i := by
  unfold decodeTableWord decodePacked at h
  split_ifs at h
  cases h
  rfl

section

variable (s : State) (nbits w : Nat)

theorem withFetchWord_status : (s.withFetchWord nbits w).status = .running := rfl

theorem withFetchWord_params : (s.withFetchWord nbits w).params = s.params := rfl

theorem withFetchWord_reg (r : Reg) : (s.withFetchWord nbits w).reg r = s.reg r := by
  simp [State.withFetchWord, State.start]

/-- The host places the word at an address of memory. -/
theorem withFetchWord_inMemory : inMemory (s.withFetchWord nbits w).pc = true := by
  change inMemory (if inMemory s.pc then s.pc else 0) = true
  split
  · assumption
  · rfl

theorem withFetchWord_read : (s.withFetchWord nbits w).mem.read (s.withFetchWord nbits w).pc.toNat =
    Word.unpack (w % 2 ^ nbits) :=
  Memory.read_write_same _ _ _

end

/-- Settles O57: the placed word stands at a pc inside memory of a running machine. -/
theorem placedWordRuns : Obligations.PlacedWordRuns := by
  intro s nbits w
  have hplaced : step (s.withFetchWord nbits w) =
      exec (decodeIn s.params.opcodeMap (Word.unpack (w % 2 ^ nbits))) (s.withFetchWord nbits w) := by
    rw [step_of_running (withFetchWord_status s nbits w) (withFetchWord_inMemory s nbits w), instrAtPc,
      withFetchWord_read, withFetchWord_params]
  refine ⟨hplaced, fun i hmap hi => ?_, withFetchWord_reg s nbits w⟩
  rw [hplaced, hmap, decodeIn_default, decode_unpack_of_decodeTableWord hi]

end Sys2Proof.Machine
end

section
/-! SUPPORT. Runs under a budget: the loop step by step, the three ways it ends, and what holds at each end
(60 R341, 70 R376 to R378). -/

namespace Sys2Proof.Machine

/-! ## The loop -/

theorem runLoop_of_halted {s : State} (hs : s.status = .halted) (n : Nat) : runLoop n s = .halted s := by
  cases n <;> simp only [runLoop, hs]

theorem runLoop_of_faulted {s : State} {k : Fault} (hs : s.status = .faulted k) (n : Nat) :
    runLoop n s = .faulted k s := by
  cases n <;> simp only [runLoop, hs]

theorem runLoop_zero_of_running {s : State} (hs : s.status = .running) : runLoop 0 s = .budgetSpent s := by
  simp only [runLoop, hs]

theorem runLoop_succ_of_next {s t : State} (hs : s.status = .running) (h : step s = .next t) (n : Nat) :
    runLoop (n + 1) s = runLoop n t := by
  simp only [runLoop, hs, h]

theorem runLoop_succ_of_fault {s : State} {k : Fault} (hs : s.status = .running) (h : step s = .fault k) (n : Nat) :
    runLoop (n + 1) s = .faulted k (afterFault s k) := by
  simp only [runLoop, hs, h]

/-- A host's run of completed steps begins with a completed step. -/
theorem hostRun_succ (M : Host.Core) {n : Nat} {s t : M.State} (h : M.run (n + 1) s = .next t) :
    ∃ u, M.step s = .next u ∧ M.run n u = .next t := by
  rw [Host.Core.run] at h
  split at h
  · next u hu => exact ⟨u, hu, h⟩
  all_goals cases h

/-- A property that every step keeps holds after any number of completed steps. -/
theorem coreRun_invariant {P : State → Prop} (hP : ∀ s t, P s → step s = .next t → P t) {n : Nat} {s t : State}
    (hs : P s) (h : core.run n s = .next t) : P t := by
  induction n generalizing s with
  | zero =>
    cases h
    exact hs
  | succ n ih =>
    obtain ⟨u, hstep, hu⟩ := hostRun_succ core h
    exact ih (hP s u hs hstep) hu

/-! ## The three ends -/

/-- How the loop ends with a budget of `n` from `s`: in a state reached by completed steps (70 R377, R378). -/
inductive LoopEnd (n : Nat) (s : State) : RunEnd → Prop where
  | halted {j : Nat} {u : State} (hu : core.run j s = .next u) (hstatus : u.status = .halted) : LoopEnd n s (.halted u)
  | faulted {j : Nat} {u : State} {k : Fault} (hj : j < n) (hu : core.run j s = .next u) (hstep : step u = .fault k) :
      LoopEnd n s (.faulted k (afterFault u k))
  | budgetSpent {u : State} (hu : core.run n s = .next u) (hstatus : u.status = .running) :
      LoopEnd n s (.budgetSpent u)

/-- An end from the state after a completed step is an end from the state before it, with one step more. -/
theorem LoopEnd.of_next {n : Nat} {s t : State} {e : RunEnd} (hstep : step s = .next t) (h : LoopEnd n t e) :
    LoopEnd (n + 1) s e := by
  cases h with
  | halted hu hstatus => exact .halted ((coreRun_next hstep).trans hu) hstatus
  | faulted hj hu hfault => exact .faulted (Nat.succ_lt_succ hj) ((coreRun_next hstep).trans hu) hfault
  | budgetSpent hu hstatus => exact .budgetSpent ((coreRun_next hstep).trans hu) hstatus

/-- No completed step leaves a machine FAULTED. -/
theorem status_ne_faulted_of_step {s t : State} (h : step s = .next t) (k : Fault) : t.status ≠ .faulted k := by
  obtain ⟨hs, rfl⟩ | ⟨hs, -, hx⟩ := step_next_cases h
  · rw [hs]
    exact nofun
  · rw [status_of_exec hs hx]
    split <;> exact nofun

/-- From a machine that is not FAULTED the loop ends in one of the three ways. -/
theorem loopEnd_runLoop (n : Nat) {s : State} (hs : ∀ k, s.status ≠ .faulted k) : LoopEnd n s (runLoop n s) := by
  cases hst : s.status with
  | halted => exact runLoop_of_halted hst n ▸ .halted (j := 0) rfl hst
  | faulted k => exact absurd hst (hs k)
  | running =>
    cases n with
    | zero => exact runLoop_zero_of_running hst ▸ .budgetSpent rfl hst
    | succ n =>
      cases hstep : step s with
      | next t =>
        rw [runLoop_succ_of_next hst hstep]
        exact .of_next hstep (loopEnd_runLoop n (status_ne_faulted_of_step hstep))
      | fault k =>
        rw [runLoop_succ_of_fault hst hstep]
        exact .faulted n.succ_pos rfl hstep
      | refused q => exact absurd hstep (step_ne_refused s q)

/-- A run, which starts RUNNING, ends in one of the three ways. -/
theorem loopEnd_run (n : Nat) (s : State) : LoopEnd n s.start (run n s) :=
  loopEnd_runLoop n nofun

/-! ## What holds at each end -/

/-- Settles O50: the start is RUNNING, and every step keeps a halted machine at an HLT. -/
theorem normalEndStandsAtHalt : Obligations.NormalEndStandsAtHalt := by
  intro n s t h
  have hstart : HaltedAtHlt s.start := nofun
  cases h ▸ loopEnd_run n s with
  | halted hu hstatus => exact ⟨hstatus, coreRun_invariant stepKeepsHaltedAtHlt hstart hu hstatus⟩

/-- Settles O51: the faulted end is the state that the faulting step found, after the fault. -/
theorem faultedEndIsPrecise : Obligations.FaultedEndIsPrecise := by
  intro n s t k h
  cases h ▸ loopEnd_run n s with
  | faulted hj hu hstep => exact ⟨_, _, hj, hu, hstep, afterFault_eq _ _⟩

/-- Settles O53: the three ends of the loop. -/
theorem runEndsInThreeWays : Obligations.RunEndsInThreeWays := by
  intro n s
  have hend := loopEnd_run n s
  generalize run n s = e at hend ⊢
  cases hend with
  | halted => exact .inl ⟨_, rfl⟩
  | faulted => exact .inr (.inl ⟨_, _, rfl⟩)
  | budgetSpent hu hstatus => exact .inr (.inr ⟨_, rfl, hstatus, hu⟩)

/-! ## A larger budget -/

/-- A loop that ends before its budget ends the same with a larger one. -/
theorem runLoop_add {n : Nat} (k : Nat) {s : State} (h : ∀ t, runLoop n s ≠ .budgetSpent t) :
    runLoop (n + k) s = runLoop n s := by
  cases hst : s.status with
  | halted => rw [runLoop_of_halted hst, runLoop_of_halted hst]
  | faulted q => rw [runLoop_of_faulted hst, runLoop_of_faulted hst]
  | running =>
    cases n with
    | zero => exact absurd (runLoop_zero_of_running hst) (h s)
    | succ n =>
      rw [Nat.add_right_comm]
      cases hstep : step s with
      | next t =>
        rw [runLoop_succ_of_next hst hstep] at h
        rw [runLoop_succ_of_next hst hstep, runLoop_succ_of_next hst hstep, runLoop_add k h]
      | fault q => rw [runLoop_succ_of_fault hst hstep, runLoop_succ_of_fault hst hstep]
      | refused q => exact absurd hstep (step_ne_refused s q)

/-- Settles O52: a run is the loop from the started machine. -/
theorem largerBudgetSameEnd : Obligations.LargerBudgetSameEnd :=
  fun _ k _ => runLoop_add k

end Sys2Proof.Machine
end
